-- ==== Sys2Proof/Word.lean ====
section
/-! DEFINITION. The data the block moves: the byte, the 36-bit host command word and the 9-byte frame
(spec/00_scope.md R7, spec/30_encoding.md R80). Everything that computes with them stands in
Sys2Proof/Machine/Codec.lean and Sys2Proof/Decode.lean. -/

namespace Sys2Proof

/-- The unit of transfer on both byte streams (R34), an unsigned integer 0 to 255 (R7). -/
abbrev Byte := BitVec 8

/-- Format HC, the host command word (R92): `op_sel` in bits 35 to 32, `arg` in bits 31 to 0. -/
abbrev HCWord := BitVec 36

/-- A frame: FRAME_LEN = 9 bytes, `b0` first on the wire, `b8` last (R7). -/
structure Frame where
  b0 : Byte
  b1 : Byte
  b2 : Byte
  b3 : Byte
  b4 : Byte
  b5 : Byte
  b6 : Byte
  b7 : Byte
  b8 : Byte
deriving DecidableEq, Repr

end Sys2Proof
end

