-- ==== Sys2Proof/Config.lean ====
section
/-! DEFINITION. What is fixed while the machine runs: the constants of R5, the open parameters of R6 as plain
data, and the free values (opaque, no body): the values of the parameters the spec leaves OPEN, and what the
environment and time do when nobody has said what they do. -/

namespace Sys2Proof

/-- SensorVariant (R27): the two known variants, and `U` for every unrecognised identifier. -/
inductive Variant where
  | A
  | B
  | U
deriving DecidableEq, Repr

/-- UNKNOWN_VARIANT_POLICY (R6, R174). -/
inductive VariantPolicy where
  | permissive
  | refuse
deriving DecidableEq, Repr

/-- The logic level a pulse is measured at (R61; PWM_LEVEL of R6). -/
inductive Level where
  | low
  | high
deriving DecidableEq, Repr

/-- The closed set of outcome statuses (R250): Ok and the seven failure statuses. -/
inductive Status where
  | ok
  | noResponse
  | checksumMismatch
  | incomplete
  | notReady
  | pwmNotConfigured
  | serialNotConfigured
  | badSpanValue
deriving DecidableEq, Repr

/-- STATUS_CODE (R97): one negative integer for each failure status. -/
structure StatusCodes where
  noResponse : Int
  checksumMismatch : Int
  incomplete : Int
  notReady : Int
  pwmNotConfigured : Int
  serialNotConfigured : Int
  badSpanValue : Int
deriving DecidableEq, Repr

/-- The small record `(warmup_duration, min_interval)` of one known variant, in ms (R27, R31). -/
structure Timing where
  warmup : Nat
  minInterval : Nat
deriving DecidableEq, Repr

/-- The open parameters of R6 that an instance may set. `TIME_UNIT`, `PWM_TIME_UNIT` and `TIME_WIDTH` carry no value
here: the rules compute on unbounded integers (R8, R29). `INT_WIDTH` is `Config.intWidth`. -/
structure Params where
  /-- WARMUP[A], MIN_INTERVAL[A] -/
  timingA : Timing
  /-- WARMUP[B], MIN_INTERVAL[B] -/
  timingB : Timing
  /-- UNKNOWN_VARIANT_POLICY -/
  policy : VariantPolicy
  /-- POLL_STEP, ms -/
  pollStep : Nat
  /-- READN_TIMEOUT, ms -/
  readnTimeout : Nat
  /-- PWM_TIMEOUT, PWM time units -/
  pwmTimeout : Nat
  /-- PWM_LEVEL -/
  pwmLevel : Level
  /-- STATUS_CODE -/
  codes : StatusCodes
  /-- LASTTEMP_RESET -/
  lasttempReset : Int
deriving DecidableEq, Repr

/-- What the sensor, the transport and time do around ONE step of the block (R10, R63). The first five fields
are used by a call that takes time (`Sleep`, `RxReadN`, `Pulse`, and the instant between `TxWrite` and the
LASTREQ stamp); the last two happen after every step. -/
structure EnvAct where
  /-- time that passes inside the call, beyond the least the call itself requires, ms -/
  delay : Nat
  /-- bytes appended to RXQ while the call is in progress (ENV_RX, R60) -/
  arrive : List Byte
  /-- the count `RxReadN` would like to return; held to the bounds of R58 -/
  count : Nat
  /-- how long the PWM line stays high, PWM time units; held to the bound of R61 -/
  pulseHigh : Nat
  /-- how long the PWM line stays low, PWM time units -/
  pulseLow : Nat
  /-- time that passes after the step, ms -/
  dt : Nat
  /-- bytes appended to RXQ after the step (ENV_RX, R60) -/
  rx : List Byte
deriving DecidableEq, Repr, Inhabited

namespace Config

/-- START (R5). -/
def start : Byte := 0xFF
/-- ADDR (R5). -/
def addr : Byte := 0x01
/-- OP_READ (R5). -/
def opRead : Byte := 0x86
/-- OP_ABC (R5). -/
def opAbc : Byte := 0x79
/-- OP_BG (R5). -/
def opBg : Byte := 0x87
/-- OP_SPAN (R5). -/
def opSpan : Byte := 0x88
/-- ABC_ON_BYTE (R5). -/
def abcOnByte : Byte := 0xA0
/-- FRAME_LEN (R5). -/
def frameLen : Nat := 9
/-- SPAN_MIN (R5). -/
def spanMin : Int := 1000
/-- SPAN_MAX (R5). -/
def spanMax : Int := 5000
/-- POLL_CYCLES (R5). -/
def pollCycles : Nat := 10
/-- PWM_CYCLE (R5). -/
def pwmCycle : Int := 1004
/-- PWM_SCALE (R5). -/
def pwmScale : Int := 2000
/-- PWM_OFF_NUM (R5). -/
def pwmOffNum : Int := 2
/-- PWM_OFF_DEN (R5). -/
def pwmOffDen : Int := 4
/-- TEMP_OFFSET (R5). -/
def tempOffset : Int := 40
/-- SETTLE, ms (R5). -/
def settle : Nat := 100
/-- INT_WIDTH, the width of the signed value of a result word: the default of R6 (R80, R93, D17). -/
abbrev intWidth : Nat := 32

/-- The default STATUS_CODE table of R97. -/
def defaultCodes : StatusCodes :=
  ⟨-2, -3, -4, -5, -6, -7, -8⟩

/-- FREE VALUE: MIN_INTERVAL[v] - 1 (OPEN in R6). -/
opaque minIntervalPred : Variant → Nat
/-- FREE VALUE: WARMUP[v] - MIN_INTERVAL[v] (OPEN in R6, R176). -/
opaque warmupSlack : Variant → Nat
/-- FREE VALUE: READN_TIMEOUT (OPEN in R6). -/
opaque readnTimeout : Nat
/-- FREE VALUE: PWM_TIMEOUT - 1 (OPEN in R6; positive by D19). -/
opaque pwmTimeoutPred : Nat
/-- FREE VALUE: LASTTEMP_RESET (OPEN in R6; "must not assume it is 0, a valid temperature, or a sentinel", R23). -/
opaque lasttempReset : Int
/-- FREE VALUE: the bytes RXQ holds at reset (R35: "any finite byte sequence"). -/
opaque rxqReset : List Byte
/-- FREE VALUE: the value on the result port where the rules give an integer that INT_WIDTH signed bits cannot hold
(R93 and R309 give it no word; DESIGN CHOICE, log 28). -/
opaque portOverflow : Int → BitVec intWidth
/-- FREE VALUE: what the environment and time do around the `n`-th step, where the script in State is used up
(R60, R61, R62; 93_implementation_defined.md U4, U5, U8, U22). -/
opaque environment : Nat → EnvAct

/-- WARMUP[v] and MIN_INTERVAL[v], free under `0 < MIN_INTERVAL[v] <= WARMUP[v]` (R176, R291). -/
def timing (v : Variant) : Timing :=
  ⟨warmupSlack v + minIntervalPred v + 1, minIntervalPred v + 1⟩

/-- The parameters of the instance `State.reset` constructs: the spec's default where R6 states one, a free value
where R6 says OPEN. -/
def params : Params where
  timingA := timing .A
  timingB := timing .B
  policy := .permissive
  pollStep := 1000
  readnTimeout := readnTimeout
  pwmTimeout := pwmTimeoutPred + 1
  pwmLevel := .high
  codes := defaultCodes
  lasttempReset := lasttempReset

end Config

end Sys2Proof
end

