-- ==== Sys2Proof/Machine/Codec.lean ====
section
/-! DEFINITION. The Checksum Unit and the frame codec as functions of frames: CHECKSUM (R110), the 72-bit view of a
frame (R7), the four builders (R120 to R123), acceptance (R90) and the fields of a response (R89). -/

namespace Sys2Proof

/-- The bytes of a frame in wire order, byte 0 first (R64). -/
def Frame.toList (f : Frame) : List Byte :=
  [f.b0, f.b1, f.b2, f.b3, f.b4, f.b5, f.b6, f.b7, f.b8]

/-- Nine bytes 0x00. -/
def Frame.zero : Frame :=
  ⟨0, 0, 0, 0, 0, 0, 0, 0, 0⟩

/-- `x[F][0..c-1] <- bytes` with `c` the length of `bytes` (at most 9): the later bytes keep what they hold
(R145, R22). -/
def Frame.overwrite (f : Frame) (bytes : List Byte) : Frame where
  b0 := bytes.getD 0 f.b0
  b1 := bytes.getD 1 f.b1
  b2 := bytes.getD 2 f.b2
  b3 := bytes.getD 3 f.b3
  b4 := bytes.getD 4 f.b4
  b5 := bytes.getD 5 f.b5
  b6 := bytes.getD 6 f.b6
  b7 := bytes.getD 7 f.b7
  b8 := bytes.getD 8 f.b8

/-- A frame as one 72-bit word: `f[i] = word[71-8i : 64-8i]` (R7). -/
def Frame.toBits (f : Frame) : BitVec 72 :=
  f.b0 ++ f.b1 ++ f.b2 ++ f.b3 ++ f.b4 ++ f.b5 ++ f.b6 ++ f.b7 ++ f.b8

/-- The frame a 72-bit word stands for (R7). -/
def Frame.ofBits (w : BitVec 72) : Frame where
  b0 := w.extractLsb' 64 8
  b1 := w.extractLsb' 56 8
  b2 := w.extractLsb' 48 8
  b3 := w.extractLsb' 40 8
  b4 := w.extractLsb' 32 8
  b5 := w.extractLsb' 24 8
  b6 := w.extractLsb' 16 8
  b7 := w.extractLsb' 8 8
  b8 := w.extractLsb' 0 8

/-- `f[1] + ... + f[7]` before reduction (R110). -/
def Frame.bodySum (f : Frame) : Nat :=
  f.b1.toNat + f.b2.toNat + f.b3.toNat + f.b4.toNat + f.b5.toNat + f.b6.toNat + f.b7.toNat

/-- CHECKSUM(f) (R110): the three lines of its pseudocode. -/
def checksum (f : Frame) : Byte :=
  let s := f.bodySum % 256
  let d := 0xFF - s
  BitVec.ofNat 8 ((d + 1) % 256)

/-- CMD_READ, the frame BUILD_READ writes (R84, R120). -/
def frameRead : Frame :=
  ⟨Config.start, Config.addr, Config.opRead, 0x00, 0x00, 0x00, 0x00, 0x00, 0x79⟩

/-- CMD_ABC_ON and CMD_ABC_OFF, the frames BUILD_ABC writes (R85, R121). -/
def frameAbc (enable : Bool) : Frame :=
  if enable then ⟨Config.start, Config.addr, Config.opAbc, Config.abcOnByte, 0x00, 0x00, 0x00, 0x00, 0xE6⟩
  else ⟨Config.start, Config.addr, Config.opAbc, 0x00, 0x00, 0x00, 0x00, 0x00, 0x86⟩

/-- CMD_BG, the frame BUILD_BG writes (R86, R122). -/
def frameBg : Frame :=
  ⟨Config.start, Config.addr, Config.opBg, 0x00, 0x00, 0x00, 0x00, 0x00, 0x78⟩

/-- The frame BUILD_SPAN(s) writes for an accepted `s` (R91, R123): `p0 = s div 256`, `p1 = s mod 256` (R87), then the
checksum of the frame. -/
def frameSpan (s : Nat) : Frame :=
  let f : Frame :=
    ⟨Config.start, Config.addr, Config.opSpan, BitVec.ofNat 8 (s / 256), BitVec.ofNat 8 (s % 256), 0x00, 0x00, 0x00, 0x00⟩
  { f with b8 := checksum f }

/-- The span a CMD_SPAN frame carries: `256*p0 + p1` (R87). -/
def Frame.spanValue (f : Frame) : Nat :=
  256 * f.b3.toNat + f.b4.toNat

/-- The range test `s < 1000 or s > 5000` of R123 and R211, negated: the closed interval SPAN_MIN to SPAN_MAX. -/
def spanAccepted (s : Int) : Bool :=
  decide (Config.spanMin ≤ s) && decide (s ≤ Config.spanMax)

/-- BUILD_SPAN(s) as the builder's contract gives it (R123): BadSpanValue, or the frame. -/
def buildSpan (s : Int) : Except Status Frame :=
  if spanAccepted s then .ok (frameSpan s.toNat) else .error .badSpanValue

/-- Acceptance of a response frame (R90, R147): byte 8 against CHECKSUM, nothing else. -/
def Frame.accepted (r : Frame) : Bool :=
  r.b8 == checksum r

/-- `ppm = 256*r[2] + r[3]` (R89). -/
def Frame.ppm (r : Frame) : Int :=
  256 * (r.b2.toNat : Int) + (r.b3.toNat : Int)

/-- `temperature = r[4] - TEMP_OFFSET` (R89). -/
def Frame.temperature (r : Frame) : Int :=
  (r.b4.toNat : Int) - Config.tempOffset

/-- `status = r[5]` (R89): read by no rule (R215). -/
def Frame.sensorStatus (r : Frame) : Byte :=
  r.b5

end Sys2Proof
end

