-- ==== Sys2Proof/Syntax.lean ====
section
/-! DEFINITION. The instructions: one constructor for each of the 22 rows of spec/opcode_table.json. Five are command
frames the block emits (format CF), one is the response frame it consumes (format RF), eight are the host
operations (format HC) and eight are the reserved op_sel values of format HC. -/

namespace Sys2Proof

/-- One constructor per row of spec/opcode_table.json. A host operation keeps the argument bits its row calls
ignored, so that no bit of its command word is dropped (R92). -/
inductive Instr where
  /-- CMD_READ, the read request (R84) -/
  | cmdRead
  /-- CMD_ABC_ON (R85) -/
  | cmdAbcOn
  /-- CMD_ABC_OFF (R85) -/
  | cmdAbcOff
  /-- CMD_BG, the set-background command (R86) -/
  | cmdBg
  /-- CMD_SPAN(s), the set-span command (R91) -/
  | cmdSpan (s : Nat)
  /-- RESP, a response frame (R88) -/
  | resp (f : Frame)
  /-- RDUART, readCO2UART (R214); `arg` ignored -/
  | rduart (arg : BitVec 32)
  /-- RDPWM, readCO2PWM (R219); `arg` ignored -/
  | rdpwm (arg : BitVec 32)
  /-- GETTEMP, getLastTemperature (R216); `arg` ignored -/
  | gettemp (arg : BitVec 32)
  /-- SETABC, setCO2ABCmode (R217): `enable` is arg[0], `rest` is arg[31:1], ignored (R94) -/
  | setabc (enable : Bool) (rest : BitVec 31)
  /-- SETBG, setCO2background (R218); `arg` ignored -/
  | setbg (arg : BitVec 32)
  /-- SETSPAN, setCO2span (R220): `span` is `sext_32(arg)` (R94) -/
  | setspan (span : Int)
  /-- ISPRE, is_preheating() (R221); `arg` ignored -/
  | ispre (arg : BitVec 32)
  /-- ISRDY, is_ready() (R223); `arg` ignored -/
  | isrdy (arg : BitVec 32)
  /-- reserved op_sel 0x0 (R96) -/
  | hcReserved0 (arg : BitVec 32)
  /-- reserved op_sel 0x9 (R96) -/
  | hcReserved9 (arg : BitVec 32)
  /-- reserved op_sel 0xA (R96) -/
  | hcReservedA (arg : BitVec 32)
  /-- reserved op_sel 0xB (R96) -/
  | hcReservedB (arg : BitVec 32)
  /-- reserved op_sel 0xC (R96) -/
  | hcReservedC (arg : BitVec 32)
  /-- reserved op_sel 0xD (R96) -/
  | hcReservedD (arg : BitVec 32)
  /-- reserved op_sel 0xE (R96) -/
  | hcReservedE (arg : BitVec 32)
  /-- reserved op_sel 0xF (R96) -/
  | hcReservedF (arg : BitVec 32)
deriving DecidableEq, Repr

/-- An encoded instruction, with the place it stands at: a word on the command port (HC), a frame in CMD on its
way to TXS (CF), a frame in RESP taken from RXQ (RF). The same nine bytes mean different things in the two
directions (R83, R90), so the place is part of the encoding. -/
inductive Encoded where
  | hc (w : HCWord)
  | cf (f : Frame)
  | rf (f : Frame)
deriving DecidableEq, Repr

end Sys2Proof
end

