-- ==== Sys2Proof/Machine/State.lean ====
section
/-! DEFINITION. The state of one block and of its environment (spec/10_state.md R20), as plain data; the ways a step can
stop; reset as construction (spec/70_reset_and_hazards.md R290). -/

namespace Sys2Proof.Machine

/-- ChannelConfig (R28): which channels are available. -/
structure Cfg where
  ser : Bool
  pwm : Bool
deriving DecidableEq, Repr

/-- The sequencer phase PH (R24). -/
inductive Phase where
  | idle
  | gate
  | build
  | send
  | settle
  | wait
  | resync
  | read
  | check
  | flush
  | extract
  | measure
  | scale
deriving DecidableEq, Repr

/-- The result word, format RS (R80, R93): a status and a value, 0 where the status is a failure or the operation has
no value. `ResultWord.onPort` is what the port carries. -/
structure ResultWord where
  /-- the status, four bits on the port (`statusTag`, R97) -/
  st : Status
  /-- the value: a signed integer of INT_WIDTH bits, two's complement -/
  val : BitVec Config.intWidth
deriving DecidableEq, Repr

/-- A line of the host's program (R101). -/
inductive HostLine where
  /-- issue this command word as soon as PH = IDLE -/
  | issue (w : HCWord)
  /-- `WAIT(d)`: issue nothing until NOW has advanced by at least `d` -/
  | wait (d : Nat)
  /-- present this command word now, busy or not: what R212 and R271 forbid the host while PH is not IDLE -/
  | force (w : HCWord)
deriving DecidableEq, Repr

/-- The state. The first fourteen fields are the spec's (R20, R31, R37), the others are the model's own
(INVENTORY.md, '## State'). -/
structure State where
  /-- VARIANT, a reset strap (R27) -/
  variant : Variant
  /-- CFG, a reset strap (R28) -/
  cfg : Cfg
  /-- NOW, ms since reset (R29) -/
  now : Nat
  /-- LASTREQ, the RequestClock (R30) -/
  lastreq : Nat
  /-- LASTTEMP, the cached temperature (R23) -/
  lasttemp : Int
  /-- CMD, the command frame being sent (R21) -/
  cmd : Frame
  /-- RESP, the response frame read (R22) -/
  resp : Frame
  /-- K, the poll counter (R25) -/
  k : Nat
  /-- TH, the last `Pulse` result (R26) -/
  th : Nat
  /-- PH, the sequencer phase (R24) -/
  ph : Phase
  /-- RXQ, the receive queue, oldest byte first (R35) -/
  rxq : List Byte
  /-- TXS, the transmit log since reset, first byte first (R36) -/
  txs : List Byte
  /-- the open parameters of R6: configuration, written by no rule (R31) -/
  params : Params
  /-- the result words delivered on the result port since reset, first one first (R93) -/
  results : List ResultWord
  /-- the host operation in progress, none while PH = IDLE (R24, R212) -/
  op : Option Instr
  /-- in phase FLUSH: the outcome that follows the flush, Ok where EXTRACT follows (R140) -/
  pend : Status
  /-- the host's lines not yet issued (R101) -/
  host : List HostLine
  /-- what the environment and time do, one act a step, as far as it is given (R63, R101) -/
  env : List EnvAct
  /-- how many steps have been taken: the argument of `Config.environment` where `env` is used up -/
  draws : Nat
deriving DecidableEq, Repr

/-- The machine stops with a fault: never, in a state a run can reach. "No operation throws; all failures are reported
via a distinguished negative status value" (spec/60_exceptions.md). -/
inductive Fault where
  /-- Raised by a meaning asked to run in a phase for which the pseudocode of its instruction has no line, and by the
  fetch in a phase other than IDLE with no operation in progress: "there is no other way to change PH" (R24).
  Safe: the spec gives such a state no step, and no run reaches one. -/
  | illegalPhase
deriving DecidableEq, Repr

/-- The machine has no transition: the situations the spec refuses. -/
inductive Refusal where
  /-- Raised by an arm of `exec` whose instruction has no meaning yet: none is left. Safe. -/
  | notModelled (mnemonic : String)
  /-- Raised by the eight HC_RESERVED rows: the command port does not accept the word (R96, U12). Safe. -/
  | reservedOpSel (sel : BitVec 4)
  /-- Raised by a host operation presented while another is in progress (R212, U13). Safe. -/
  | busy
  /-- Raised by `RxPeek` and `RxPop` on an empty queue (R57, U3); no rule makes such a call. Safe. -/
  | rxEmpty
  /-- Raised by construction with VARIANT = U under the policy `refuse` (R174, U2). Safe. -/
  | unknownVariant
  /-- Raised by the fetch in phase SEND where CMD holds none of the 4005 command frames, to which the document gives
  no meaning (R95(a), R125); no run reaches such a state. Safe. -/
  | notACommandFrame
deriving DecidableEq, Repr

/-- The outcome of a step or of a meaning. -/
abbrev Result := Host.Outcome State Fault Refusal

/-- What construction takes: the two straps (R27, R28), the open parameters (R295(c)), and what the spec leaves
unspecified after reset (R40): the scratch registers and the bytes already in RXQ. -/
structure Construction where
  variant : Variant
  cfg : Cfg
  params : Params
  cmd : Frame
  resp : Frame
  k : Nat
  th : Nat
  rxq : List Byte
deriving DecidableEq, Repr

/-- The state right after construction (R290, R40): NOW = 0, LASTREQ = 0, LASTTEMP = LASTTEMP_RESET, PH = IDLE, TXS
empty; the straps latched; nothing sent, flushed or measured. -/
def State.construct (c : Construction) : State where
  variant := c.variant
  cfg := c.cfg
  now := 0
  lastreq := 0
  lasttemp := c.params.lasttempReset
  cmd := c.cmd
  resp := c.resp
  k := c.k
  th := c.th
  ph := .idle
  rxq := c.rxq
  txs := []
  params := c.params
  results := []
  op := none
  pend := .ok
  host := []
  env := []
  draws := 0

/-- The construction behind `State.reset`. DESIGN CHOICE (log 10): variant A with both channels. DESIGN CHOICE (log 11):
the scratch registers hold 0. LASTTEMP_RESET and the content of RXQ are free values (log 12). -/
def Construction.default : Construction where
  variant := .A
  cfg := ⟨true, true⟩
  params := Config.params
  cmd := Frame.zero
  resp := Frame.zero
  k := 0
  th := 0
  rxq := Config.rxqReset

/-- The machine right after reset (R40). -/
def State.reset : State :=
  State.construct Construction.default

end Sys2Proof.Machine
end

