-- ==== Sys2Proof/Machine/Flags.lean ====
section
/-! DEFINITION. The predicates computed on demand, never latched (R32): IS_PREHEATING (R171), IS_READY (R172), the
readiness state (R170), and the precondition gates made from them (R211). -/

namespace Sys2Proof.Machine

/-- The lookup `v -> (WARMUP[v], MIN_INTERVAL[v])` (R27, R31): nothing for an unrecognised variant. -/
def timingOf (p : Params) : Variant → Option Timing
  | .A => some p.timingA
  | .B => some p.timingB
  | .U => none

/-- IS_PREHEATING() (R171, R174). -/
def isPreheating (s : State) : Bool :=
  match timingOf s.params s.variant with
  | some t => decide (s.now < t.warmup)
  | none => false

/-- The interval test of IS_READY, negated: `not (NOW - LASTREQ < MIN_INTERVAL[v])` on integers (R172). -/
def intervalElapsed (t : Timing) (s : State) : Bool :=
  !decide ((s.now : Int) - (s.lastreq : Int) < (t.minInterval : Int))

/-- IS_READY() (R172, R174). One sample of NOW serves both tests (R177, D36). -/
def isReady (s : State) : Bool :=
  if isPreheating s then false
  else
    match timingOf s.params s.variant with
    | some t => intervalElapsed t s
    | none => true

/-- The three-valued readiness state (R170). -/
inductive Readiness where
  | preHeating
  | coolingDown
  | ready
deriving DecidableEq, Repr

/-- `state(t, q, v)` of R170; Ready at all times for an unrecognised variant (R174, R40). -/
def readiness (s : State) : Readiness :=
  match timingOf s.params s.variant with
  | none => .ready
  | some t =>
    if s.now < t.warmup then .preHeating
    else if (s.now : Int) - (s.lastreq : Int) < (t.minInterval : Int) then .coolingDown
    else .ready

/-- GATE_SERIAL_READY (R211): the first failure, if any. -/
def gateSerialReady (s : State) : Option Status :=
  if s.cfg.ser = false then some .serialNotConfigured
  else if isReady s = false then some .notReady
  else none

/-- GATE_SERIAL_WARM (R211), the gate of GETTEMP. -/
def gateSerialWarm (s : State) : Option Status :=
  if s.cfg.ser = false then some .serialNotConfigured
  else if isPreheating s then some .notReady
  else none

/-- GATE_PWM (R211). -/
def gatePwm (s : State) : Option Status :=
  if s.cfg.pwm = false then some .pwmNotConfigured else none

/-- GATE_SPAN(s) (R211). -/
def gateSpan (v : Int) : Option Status :=
  if spanAccepted v then none else some .badSpanValue

/-- The gates of SETSPAN in their order: the span first (R211, R220). -/
def gateSetspan (v : Int) (s : State) : Option Status :=
  match gateSpan v with
  | some st => some st
  | none => gateSerialReady s

end Sys2Proof.Machine
end

