-- ==== Sys2Proof/Machine/Operands.lean ====
section
/-! DEFINITION. The forms operands and results take outside the registers: the strap codes (R99), the status tag and
STATUS_CODE (R97), the result word on the port (R80, R93) and its integer view (R98), and the frame a host operation sends
(R120 to R123). -/

namespace Sys2Proof.Machine

/-- The VARIANT strap: 0 = A, 1 = B, 2 and 3 = U (R99). -/
def variantOfStrap (c : BitVec 2) : Variant :=
  if c = 0 then .A else if c = 1 then .B else .U

/-- The CFG strap: bit 0 = SER, bit 1 = PWM (R99). -/
def cfgOfStrap (c : BitVec 2) : Cfg :=
  ⟨c.getLsbD 0, c.getLsbD 1⟩

/-- The status tag `st` of R97. -/
def statusTag : Status → BitVec 4
  | .ok => 0
  | .noResponse => 2
  | .checksumMismatch => 3
  | .incomplete => 4
  | .notReady => 5
  | .pwmNotConfigured => 6
  | .serialNotConfigured => 7
  | .badSpanValue => 8

/-- The integer `v` as the `val` of a result word (R93): its INT_WIDTH-bit two's complement. An integer that does not
fit has no word in the spec: a free value (R309; log 28). -/
def portVal (v : Int) : BitVec Config.intWidth :=
  let w := BitVec.ofInt Config.intWidth v
  if w.toInt = v then w else Config.portOverflow v

/-- Format RS, what the result port carries (R80, R93): the pair `(st, val)` of the 4-bit status tag and the signed value
of INT_WIDTH bits. -/
def ResultWord.onPort (r : ResultWord) : BitVec 4 × BitVec Config.intWidth :=
  (statusTag r.st, r.val)

/-- STATUS_CODE (R97): none for Ok. -/
def statusCode (c : StatusCodes) : Status → Option Int
  | .ok => none
  | .noResponse => some c.noResponse
  | .checksumMismatch => some c.checksumMismatch
  | .incomplete => some c.incomplete
  | .notReady => some c.notReady
  | .pwmNotConfigured => some c.pwmNotConfigured
  | .serialNotConfigured => some c.serialNotConfigured
  | .badSpanValue => some c.badSpanValue

/-- The operations whose success has a value (R93). -/
def hasValue : Instr → Bool
  | .rduart _ => true
  | .rdpwm _ => true
  | .gettemp _ => true
  | .ispre _ => true
  | .isrdy _ => true
  | _ => false

/-- `int_view(st, val)` of R98, for the result of operation `i`: no value for a void operation that succeeded. -/
def intView (c : StatusCodes) (i : Instr) (r : ResultWord) : Option Int :=
  match r.st with
  | .ok => if hasValue i then some r.val.toInt else none
  | st => statusCode c st

/-- The value ISPRE and ISRDY return: 1 for true, 0 for false (R221, R223). -/
def boolVal (b : Bool) : Int :=
  if b then 1 else 0

/-- The command frame a host operation sends (R214, R217, R218, R220). -/
def frameOf : Instr → Option Frame
  | .rduart _ => some frameRead
  | .setabc enable _ => some (frameAbc enable)
  | .setbg _ => some frameBg
  | .setspan v => some (frameSpan v.toNat)
  | _ => none

/-- A host operation that sends a command frame: the other direction of `frameOf`. -/
def senderOf : Instr → Option Instr
  | .cmdRead => some (.rduart 0)
  | .cmdAbcOn => some (.setabc true 0)
  | .cmdAbcOff => some (.setabc false 0)
  | .cmdBg => some (.setbg 0)
  | .cmdSpan s => some (.setspan s)
  | _ => none

/-- The phases the pseudocode of a host operation passes through while it is busy (R24, R214 to R223). -/
def allows : Instr → Phase → Bool
  | .rduart _, p => p ∈ [.gate, .build, .send, .settle, .wait, .resync, .read, .check, .flush, .extract]
  | .setabc _ _, p => p ∈ [.gate, .build, .send, .settle]
  | .setbg _, p => p ∈ [.gate, .build, .send, .settle]
  | .setspan _, p => p ∈ [.gate, .build, .send, .settle]
  | .rdpwm _, p => p ∈ [.gate, .measure, .scale]
  | .gettemp _, p => p ∈ [.gate]
  | .ispre _, p => p ∈ [.gate]
  | .isrdy _, p => p ∈ [.gate]
  | _, _ => false

end Sys2Proof.Machine
end

