-- ==== Sys2Proof/Machine/Ops.lean ====
section
/-! DEFINITION. The shared operations: the environment and time (R60, R63), the capability calls (R53 to R62), the
result port with `raise` and `return Ok` (R258, R9), the lines common to several host operations (R211, R213), and
PARSE_RESPONSE phase by phase (R140). -/

namespace Sys2Proof.Machine

/-! ### The environment and time -/

/-- The act of the environment and time around the present step: the script's next one, or the free value. -/
def State.act (s : State) : EnvAct :=
  match s.env with
  | a :: _ => a
  | [] => Config.environment s.draws

/-- After a step: ENV_RX and the passage of time (R60, R63, R29). The act is used up. -/
def environment (s : State) : State :=
  { s with
    now := s.now + s.act.dt
    rxq := s.rxq ++ s.act.rx
    env := s.env.tail
    draws := s.draws + 1 }

/-- During a call that takes time: bytes arrive and NOW advances by `d` (R63). -/
def during (d : Nat) (s : State) : State :=
  { s with
    now := s.now + d
    rxq := s.rxq ++ s.act.arrive }

/-! ### The capability calls -/

/-- `TxWrite(bytes)` (R53): all of them are in TXS when the call returns; the count is not used. -/
def txWrite (bytes : List Byte) (s : State) : State :=
  { s with txs := s.txs ++ bytes }

/-- `RxAvail()` (R54). -/
def rxAvail (s : State) : Nat :=
  s.rxq.length

/-- `RxPeek()` (R55); refused on an empty queue (R57). -/
def rxPeek (s : State) (next : Byte → Result) : Result :=
  match s.rxq with
  | b :: _ => next b
  | [] => .refused .rxEmpty

/-- `RxPop()` (R56), the value ignored; refused on an empty queue (R57). -/
def rxPop (s : State) : Result :=
  match s.rxq with
  | _ :: rest => .next { s with rxq := rest }
  | [] => .refused .rxEmpty

/-- The count `RxReadN(n)` obtains (R58): at least `min(n, |RXQ| at the call)`, at most `n` and what has arrived by the
time it returns; free between. -/
def readCount (n : Nat) (s : State) : Nat :=
  max (min n s.rxq.length) (min s.act.count (min n (s.rxq.length + s.act.arrive.length)))

/-- `RxReadN(n)` (R58): the oldest bytes of RXQ as extended during the call, and the state without them. NOW advances
by at most READN_TIMEOUT. -/
def rxReadN (n : Nat) (s : State) : List Byte × State :=
  let c := readCount n s
  let t := during (min s.act.delay s.params.readnTimeout) s
  (t.rxq.take c, { t with rxq := t.rxq.drop c })

/-- `RxFlush()` (R59). -/
def rxFlush (s : State) : State :=
  { s with rxq := [] }

/-- The result of `Pulse(level, timeout)` (R61): free between 0 and `timeout`. -/
def pulseResult (level : Level) (timeout : Nat) (s : State) : Nat :=
  match level with
  | .high => min s.act.pulseHigh timeout
  | .low => min s.act.pulseLow timeout

/-- `Sleep(d)` (R62): NOW advances by at least `d`; the environment may act meanwhile. -/
def sleep (d : Nat) (s : State) : State :=
  during (d + s.act.delay) s

/-! ### The result port -/

/-- The block delivers a result word and is IDLE again (R93). -/
def deliver (r : ResultWord) (s : State) : State :=
  { s with
    results := s.results ++ [r]
    ph := .idle
    op := none }

/-- `raise <Status>` (R258), the block's only "trap entry": `(st, 0)` on the result port, PH = IDLE, nothing saved, no
handler. -/
def raise (st : Status) (s : State) : State :=
  deliver ⟨st, 0⟩ s

/-- `return Ok(v)` (R9), `v` in the INT_WIDTH bits of the port (R93). There is no return from a trap beside it: a failing
operation simply ends (R263). -/
def returnOk (v : Int) (s : State) : State :=
  deliver ⟨.ok, portVal v⟩ s

/-- `return Ok` of an operation without a value: `(Ok, 0)` (R93, D3). -/
def returnVoid (s : State) : State :=
  deliver ⟨.ok, 0⟩ s

/-! ### Lines common to the host operations -/

/-- `pc <- PHASE` (R9). -/
def goto (p : Phase) (s : State) : State :=
  { s with ph := p }

/-- The command port takes an operation: `pc <- GATE` from IDLE (R24, R212). -/
def accept (i : Instr) (s : State) : State :=
  { s with
    op := some i
    ph := .gate }

/-- The frame of every host operation: taken from the command port in phase IDLE; in another phase the line of the
pseudocode that PH names, if this is the operation in progress, else refused (R212). -/
def hostOp (i : Instr) (s : State) (line : Phase → Result) : Result :=
  match s.ph with
  | .idle => .next (accept i s)
  | p => if s.op = some i then line p else .refused .busy

/-- Phase GATE (R211): raise the first failure, else go on. -/
def afterGate (g : Option Status) (s : State) (go : State → State) : State :=
  match g with
  | some st => raise st s
  | none => go s

/-- Phase BUILD: the builder fills CMD (R120 to R124); SEND follows. -/
def buildCmd (f : Frame) (s : State) : State :=
  { s with
    cmd := f
    ph := .send }

/-- Phase SEND (R213): `TxWrite` of the nine bytes, then LASTREQ is stamped with NOW, sampled after `TxWrite` has
returned (D14, D36); SETTLE follows. -/
def transmit (f : Frame) (s : State) : State :=
  let t := during s.act.delay (txWrite f.toList s)
  { t with
    lastreq := t.now
    ph := .settle }

/-- Phase SETTLE (R213): `Sleep(SETTLE)`. -/
def settleDelay (s : State) : State :=
  sleep Config.settle s

/-! ### PARSE_RESPONSE (R140) -/

/-- `pc <- WAIT; x[K] <- 0` (R140). -/
def beginParse (s : State) : State :=
  { s with
    k := 0
    ph := .wait }

/-- `pc <- FLUSH`, with what follows the flush (R140, R149). -/
def toFlush (st : Status) (s : State) : State :=
  { s with
    pend := st
    ph := .flush }

/-- Phase WAIT (R141, R142): one sample of the queue, and one `Sleep(POLL_STEP)` where it is empty and fewer than
POLL_CYCLES sleeps were taken. -/
def waitLine (s : State) : State :=
  if rxAvail s = 0 then
    if s.k = Config.pollCycles then toFlush .noResponse s
    else { sleep s.params.pollStep s with k := s.k + 1 }
  else goto .resync s

/-- Phase RESYNC (R143): one iteration of the scan. -/
def resyncLine (s : State) : Result :=
  if rxAvail s = 0 then .next (goto .read s)
  else rxPeek s fun b => if b = Config.start then .next (goto .read s) else rxPop s

/-- Phase READ (R144, R145, R146): a fresh availability test and the one 9-byte read. -/
def readLine (s : State) : State :=
  if rxAvail s = 0 then toFlush .incomplete s
  else
    let (bytes, t) := rxReadN Config.frameLen s
    let u := { t with resp := t.resp.overwrite bytes }
    if bytes.length < Config.frameLen then toFlush .incomplete u else goto .check u

/-- Phase CHECK (R147, R148) of the frame `r` in RESP: a mismatch writes the sentinel to LASTTEMP. -/
def checkLine (r : Frame) (s : State) : State :=
  if r.accepted then toFlush .ok s
  else toFlush .checksumMismatch { s with lasttemp := s.params.codes.checksumMismatch }

/-- Phase FLUSH (R149): the one `RxFlush`, then the failure is raised or EXTRACT follows. -/
def flushLine (s : State) : State :=
  let t := rxFlush s
  match s.pend with
  | .ok => goto .extract t
  | st => raise st t

/-- Phase EXTRACT of RDUART (R214): ppm and temperature of the frame in RESP. -/
def extractLine (s : State) : State :=
  returnOk s.resp.ppm { s with lasttemp := s.resp.temperature }

/-! ### The PWM decoder -/

/-- PWM_DECODE(th) (R191). -/
def pwmDecode (th : Int) : Int :=
  let tl := Config.pwmCycle - th
  let num := Config.pwmScale * (th - Config.pwmOffNum)
  let den := th + tl - Config.pwmOffDen
  Int.tdiv num den

/-- Phase MEASURE (R193): one `Pulse`; repeated while it answers 0. -/
def measureLine (s : State) : State :=
  let d := pulseResult s.params.pwmLevel s.params.pwmTimeout s
  let t := { during s.act.delay s with th := d }
  if d = 0 then t else goto .scale t

/-- Phase SCALE (R194). -/
def scaleLine (s : State) : State :=
  returnOk (pwmDecode s.th) s

/-! ### Frames as instructions -/

/-- A command frame is transmitted in phase SEND and in no other (R213, R124). -/
def sendFrame (f : Frame) (s : State) : Result :=
  match s.ph with
  | .send => .next (transmit f s)
  | _ => .fault .illegalPhase

/-- A response frame is validated in phase CHECK and in no other (R147). -/
def checkFrame (f : Frame) (s : State) : Result :=
  match s.ph with
  | .check => .next (checkLine f s)
  | _ => .fault .illegalPhase

/-- A reserved op_sel value: the command port does not accept the word (R96). -/
def refuseReserved (sel : BitVec 4) : Result :=
  .refused (.reservedOpSel sel)

/-! ### Construction -/

/-- Reset with the policy of R174: VARIANT = U is no legal start state under `refuse`. -/
def constructChecked (c : Construction) : Result :=
  if c.params.policy = .refuse ∧ c.variant = .U then .refused .unknownVariant
  else .next (State.construct c)

end Sys2Proof.Machine
end

