-- ==== Sys2Proof/Machine/CommandFrames.lean ====
section
/-! DEFINITION. The command frames, rows of format CF: each is what the block emits in phase SEND (R213). The nine bytes
join TXS, LASTREQ is stamped, SETTLE follows. -/

namespace Sys2Proof.Machine

/-- CMD_READ (R84). -/
def execCmdRead (s : State) : Result :=
  sendFrame frameRead s

/-- CMD_ABC_ON (R85). -/
def execCmdAbcOn (s : State) : Result :=
  sendFrame (frameAbc true) s

/-- CMD_ABC_OFF (R85). -/
def execCmdAbcOff (s : State) : Result :=
  sendFrame (frameAbc false) s

/-- CMD_BG (R86). -/
def execCmdBg (s : State) : Result :=
  sendFrame frameBg s

/-- CMD_SPAN(v) (R91). -/
def execCmdSpan (v : Nat) (s : State) : Result :=
  sendFrame (frameSpan v) s

end Sys2Proof.Machine
end

