-- ==== Sys2Proof/Machine/PwmRead.lean ====
section
/-! DEFINITION. The host operation RDPWM over the PWM line (R219, R197). -/

namespace Sys2Proof.Machine

/-- RDPWM (R219): no readiness gate; the measurement may never end (R195). -/
def execRdpwm (arg : BitVec 32) (s : State) : Result :=
  hostOp (.rdpwm arg) s fun
    | .gate => .next (afterGate (gatePwm s) s (goto .measure))
    | .measure => .next (measureLine s)
    | .scale => .next (scaleLine s)
    | _ => .fault .illegalPhase

end Sys2Proof.Machine
end

