-- ==== Sys2Proof/Machine/Queries.lean ====
section
/-! DEFINITION. The host operations that ask for a readiness predicate: ISPRE (R221) and ISRDY (R223). Neither is gated. -/

namespace Sys2Proof.Machine

/-- ISPRE (R221). -/
def execIspre (arg : BitVec 32) (s : State) : Result :=
  hostOp (.ispre arg) s fun
    | .gate => .next (returnOk (boolVal (isPreheating s)) s)
    | _ => .fault .illegalPhase

/-- ISRDY (R223). -/
def execIsrdy (arg : BitVec 32) (s : State) : Result :=
  hostOp (.isrdy arg) s fun
    | .gate => .next (returnOk (boolVal (isReady s)) s)
    | _ => .fault .illegalPhase

end Sys2Proof.Machine
end

