-- ==== Sys2Proof/Machine/Reserved.lean ====
section
/-! DEFINITION. The reserved op_sel values 0x0 and 0x9 to 0xF: the command port does not accept such a word (R96, U12). -/

namespace Sys2Proof.Machine

/-- HC_RESERVED_0 (R96). -/
def execHcReserved0 (_arg : BitVec 32) (_s : State) : Result :=
  refuseReserved 0x0

/-- HC_RESERVED_9 (R96). -/
def execHcReserved9 (_arg : BitVec 32) (_s : State) : Result :=
  refuseReserved 0x9

/-- HC_RESERVED_A (R96). -/
def execHcReservedA (_arg : BitVec 32) (_s : State) : Result :=
  refuseReserved 0xA

/-- HC_RESERVED_B (R96). -/
def execHcReservedB (_arg : BitVec 32) (_s : State) : Result :=
  refuseReserved 0xB

/-- HC_RESERVED_C (R96). -/
def execHcReservedC (_arg : BitVec 32) (_s : State) : Result :=
  refuseReserved 0xC

/-- HC_RESERVED_D (R96). -/
def execHcReservedD (_arg : BitVec 32) (_s : State) : Result :=
  refuseReserved 0xD

/-- HC_RESERVED_E (R96). -/
def execHcReservedE (_arg : BitVec 32) (_s : State) : Result :=
  refuseReserved 0xE

/-- HC_RESERVED_F (R96). -/
def execHcReservedF (_arg : BitVec 32) (_s : State) : Result :=
  refuseReserved 0xF

end Sys2Proof.Machine
end

