-- ==== Sys2Proof/Machine/ResponseFrame.lean ====
section
/-! DEFINITION. The response frame, the row of format RF: what the block does with nine bytes it has read (R147, R148). -/

namespace Sys2Proof.Machine

/-- RESP (R88, R90): accepted or rejected by its checksum in phase CHECK. -/
def execResp (f : Frame) (s : State) : Result :=
  checkFrame f s

end Sys2Proof.Machine
end

