-- ==== Sys2Proof/Machine/SerialRead.lean ====
section
/-! DEFINITION. The host operations that read: RDUART over the serial channel (R214) and GETTEMP from the cache (R216). -/

namespace Sys2Proof.Machine

/-- RDUART (R214): the line that PH names. -/
def execRduart (arg : BitVec 32) (s : State) : Result :=
  hostOp (.rduart arg) s fun
    | .gate => .next (afterGate (gateSerialReady s) s (goto .build))
    | .build => .next (buildCmd frameRead s)
    | .send => .next (transmit s.cmd s)
    | .settle => .next (beginParse (settleDelay s))
    | .wait => .next (waitLine s)
    | .resync => resyncLine s
    | .read => .next (readLine s)
    | .check => .next (checkLine s.resp s)
    | .flush => .next (flushLine s)
    | .extract => .next (extractLine s)
    | .idle => .fault .illegalPhase
    | .measure => .fault .illegalPhase
    | .scale => .fault .illegalPhase

/-- GETTEMP (R216): whatever LASTTEMP holds, once its two gates pass. -/
def execGettemp (arg : BitVec 32) (s : State) : Result :=
  hostOp (.gettemp arg) s fun
    | .gate => .next (afterGate (gateSerialWarm s) s (returnOk s.lasttemp))
    | _ => .fault .illegalPhase

end Sys2Proof.Machine
end

