-- ==== Sys2Proof/Machine/SerialSet.lean ====
section
/-! DEFINITION. The host operations that set: SETABC (R217), SETBG (R218), SETSPAN (R220). They read no response (R222). -/

namespace Sys2Proof.Machine

/-- The lines the three set operations share: gates `g`, BUILD of `f`, SEND, SETTLE, `return Ok`. -/
def setLines (g : Option Status) (f : Frame) (s : State) : Phase → Result
  | .gate => .next (afterGate g s (goto .build))
  | .build => .next (buildCmd f s)
  | .send => .next (transmit s.cmd s)
  | .settle => .next (returnVoid (settleDelay s))
  | _ => .fault .illegalPhase

/-- SETABC(enable) (R217). -/
def execSetabc (enable : Bool) (rest : BitVec 31) (s : State) : Result :=
  hostOp (.setabc enable rest) s (setLines (gateSerialReady s) (frameAbc enable) s)

/-- SETBG (R218). -/
def execSetbg (arg : BitVec 32) (s : State) : Result :=
  hostOp (.setbg arg) s (setLines (gateSerialReady s) frameBg s)

/-- The BUILD line of SETSPAN: BUILD_SPAN(v) with its own test (R123), which never fails after the gate (R220). -/
def buildSpanLine (v : Int) (s : State) : State :=
  match buildSpan v with
  | .ok f => buildCmd f s
  | .error st => raise st s

/-- SETSPAN(v) (R220). -/
def execSetspan (v : Int) (s : State) : Result :=
  hostOp (.setspan v) s fun
    | .build => .next (buildSpanLine v s)
    | p => setLines (gateSetspan v s) (frameSpan v.toNat) s p

end Sys2Proof.Machine
end

