-- ==== Sys2Proof/Machine/Dispatch.lean ====
section
/-! DEFINITION. One arm per constructor of `Instr`. -/

namespace Sys2Proof.Machine

def exec (i : Instr) (s : State) : Host.Outcome State Fault Refusal :=
  match i with
  | .cmdRead => Sys2Proof.Machine.execCmdRead s
  | .cmdAbcOn => Sys2Proof.Machine.execCmdAbcOn s
  | .cmdAbcOff => Sys2Proof.Machine.execCmdAbcOff s
  | .cmdBg => Sys2Proof.Machine.execCmdBg s
  | .cmdSpan v => Sys2Proof.Machine.execCmdSpan v s
  | .resp f => Sys2Proof.Machine.execResp f s
  | .rduart arg => Sys2Proof.Machine.execRduart arg s
  | .rdpwm arg => Sys2Proof.Machine.execRdpwm arg s
  | .gettemp arg => Sys2Proof.Machine.execGettemp arg s
  | .setabc enable rest => Sys2Proof.Machine.execSetabc enable rest s
  | .setbg arg => Sys2Proof.Machine.execSetbg arg s
  | .setspan v => Sys2Proof.Machine.execSetspan v s
  | .ispre arg => Sys2Proof.Machine.execIspre arg s
  | .isrdy arg => Sys2Proof.Machine.execIsrdy arg s
  | .hcReserved0 arg => Sys2Proof.Machine.execHcReserved0 arg s
  | .hcReserved9 arg => Sys2Proof.Machine.execHcReserved9 arg s
  | .hcReservedA arg => Sys2Proof.Machine.execHcReservedA arg s
  | .hcReservedB arg => Sys2Proof.Machine.execHcReservedB arg s
  | .hcReservedC arg => Sys2Proof.Machine.execHcReservedC arg s
  | .hcReservedD arg => Sys2Proof.Machine.execHcReservedD arg s
  | .hcReservedE arg => Sys2Proof.Machine.execHcReservedE arg s
  | .hcReservedF arg => Sys2Proof.Machine.execHcReservedF arg s

end Sys2Proof.Machine
end

