-- ==== Sys2Proof/WellFormed.lean ====
section
/-! DEFINITION. Which terms of `Instr` are instructions: the operand ranges that the encodings of
spec/30_encoding.md admit. -/

namespace Sys2Proof

/-- The operand ranges: CMD_SPAN(s) exists for `SPAN_MIN <= s <= SPAN_MAX` only (R87, R91); the argument of SETSPAN
is a 32-bit two's-complement integer (R94). Every other operand is a bit field at its full width. -/
def Instr.wf : Instr → Bool
  | .cmdSpan s => decide (1000 ≤ s) && decide (s ≤ 5000)
  | .setspan v => decide (-2147483648 ≤ v) && decide (v < 2147483648)
  | .cmdRead => true
  | .cmdAbcOn => true
  | .cmdAbcOff => true
  | .cmdBg => true
  | .resp _ => true
  | .rduart _ => true
  | .rdpwm _ => true
  | .gettemp _ => true
  | .setabc _ _ => true
  | .setbg _ => true
  | .ispre _ => true
  | .isrdy _ => true
  | .hcReserved0 _ => true
  | .hcReserved9 _ => true
  | .hcReservedA _ => true
  | .hcReservedB _ => true
  | .hcReservedC _ => true
  | .hcReservedD _ => true
  | .hcReservedE _ => true
  | .hcReservedF _ => true

end Sys2Proof
end

