-- ==== Sys2Proof/Decode.lean ====
section
/-! DEFINITION. From bits to instructions and back (spec/30_encoding.md). The decoder is total: the command port decodes
every 36-bit word (the reserved op_sel values to their own constructors), every frame in RESP is a response, and a
frame in CMD that is none of the 4005 of R125 is rejected by name. -/

namespace Sys2Proof

/-- Why a decoder rejects. -/
inductive DecodeError where
  /-- the nine bytes in CMD are no command frame the document defines (R95(a), R125) -/
  | notACommandFrame
deriving DecidableEq, Repr

/-- The host operation of a command word: `op_sel = word[35:32]`, `arg = word[31:0]` (R92, R94, R96). -/
def decodeHC (w : HCWord) : Instr :=
  let arg := w.extractLsb' 0 32
  match (w.extractLsb' 32 4).toNat with
  | 0 => .hcReserved0 arg
  | 1 => .rduart arg
  | 2 => .rdpwm arg
  | 3 => .gettemp arg
  | 4 => .setabc (arg.getLsbD 0) (arg.extractLsb' 1 31)
  | 5 => .setbg arg
  | 6 => .setspan arg.toInt
  | 7 => .ispre arg
  | 8 => .isrdy arg
  | 9 => .hcReserved9 arg
  | 10 => .hcReservedA arg
  | 11 => .hcReservedB arg
  | 12 => .hcReservedC arg
  | 13 => .hcReservedD arg
  | 14 => .hcReservedE arg
  | _ => .hcReservedF arg

/-- The row of format CF a frame in CMD is (R84, R85, R86, R91). -/
def decodeCF (f : Frame) : Except DecodeError Instr :=
  if f = frameRead then .ok .cmdRead
  else if f = frameAbc true then .ok .cmdAbcOn
  else if f = frameAbc false then .ok .cmdAbcOff
  else if f = frameBg then .ok .cmdBg
  else if spanAccepted f.spanValue && decide (f = frameSpan f.spanValue) then .ok (.cmdSpan f.spanValue)
  else .error .notACommandFrame

/-- The decoder: a word on the command port, a frame in CMD, or a frame in RESP. -/
def decode : Encoded → Except DecodeError Instr
  | .hc w => .ok (decodeHC w)
  | .cf f => decodeCF f
  | .rf f => .ok (.resp f)

/-- A command word from its selector and its argument (R92). -/
def hcWord (sel : BitVec 4) (arg : BitVec 32) : HCWord :=
  sel ++ arg

/-- The encoder: the word or frame of an instruction, with the place it stands at. -/
def encode : Instr → Encoded
  | .cmdRead => .cf frameRead
  | .cmdAbcOn => .cf (frameAbc true)
  | .cmdAbcOff => .cf (frameAbc false)
  | .cmdBg => .cf frameBg
  | .cmdSpan s => .cf (frameSpan s)
  | .resp f => .rf f
  | .rduart arg => .hc (hcWord 0x1 arg)
  | .rdpwm arg => .hc (hcWord 0x2 arg)
  | .gettemp arg => .hc (hcWord 0x3 arg)
  | .setabc enable rest => .hc (hcWord 0x4 (rest ++ BitVec.ofBool enable))
  | .setbg arg => .hc (hcWord 0x5 arg)
  | .setspan v => .hc (hcWord 0x6 (BitVec.ofInt 32 v))
  | .ispre arg => .hc (hcWord 0x7 arg)
  | .isrdy arg => .hc (hcWord 0x8 arg)
  | .hcReserved0 arg => .hc (hcWord 0x0 arg)
  | .hcReserved9 arg => .hc (hcWord 0x9 arg)
  | .hcReservedA arg => .hc (hcWord 0xA arg)
  | .hcReservedB arg => .hc (hcWord 0xB arg)
  | .hcReservedC arg => .hc (hcWord 0xC arg)
  | .hcReservedD arg => .hc (hcWord 0xD arg)
  | .hcReservedE arg => .hc (hcWord 0xE arg)
  | .hcReservedF arg => .hc (hcWord 0xF arg)

/-- The encoding a word of spec/opcode_table.json stands for: 36 bits (40 in whole bytes) are a command word, 72 bits
a frame. The table's RESP row fixes no bit, so the nine bytes of a command frame are read as that command, and
every other frame as a response. -/
def tableEncoding (nbits w : Nat) : Option Encoded :=
  if nbits = 36 ∨ nbits = 40 then
    if w < 2 ^ 36 then some (.hc (BitVec.ofNat 36 w)) else none
  else if nbits = 72 then
    if w < 2 ^ 72 then
      let f := Frame.ofBits (BitVec.ofNat 72 w)
      match decodeCF f with
      | .ok _ => some (.cf f)
      | .error _ => some (.rf f)
    else none
  else none

/-- The instruction the decoder reads from a word of spec/opcode_table.json. -/
def decodeTableWord (nbits w : Nat) : Option Instr :=
  match tableEncoding nbits w with
  | some e =>
    match decode e with
    | .ok i => some i
    | .error _ => none
  | none => none

end Sys2Proof
end

