-- ==== Sys2Proof/Machine/Fetch.lean ====
section
/-! DEFINITION. Where the block finds what it runs next: the command port in phase IDLE, CMD in phase SEND, RESP in phase
CHECK, and in the other phases the host operation in progress (R24, R212, R213, R147). -/

namespace Sys2Proof.Machine

/-- The step of a decoded instruction, or the refusal of one that does not decode. -/
def decoded (e : Encoded) (s : State) : Host.Outcome (Option Instr × State) Fault Refusal :=
  match decode e with
  | .ok i => .next (some i, s)
  | .error .notACommandFrame => .refused .notACommandFrame

/-- Phase IDLE: the host's next line (R93, R101). `WAIT(d)` lets at least `d` pass; with no line left the block stays
IDLE. -/
def fetchIdle (s : State) : Host.Outcome (Option Instr × State) Fault Refusal :=
  match s.host with
  | .issue w :: rest => decoded (.hc w) { s with host := rest }
  | .force w :: rest => decoded (.hc w) { s with host := rest }
  | .wait d :: rest => .next (none, sleep d { s with host := rest })
  | [] => .next (none, s)

/-- The other phases: a word presented now is refused (R212); else the frame in CMD or RESP, or the operation in
progress. -/
def fetchBusy (s : State) : Host.Outcome (Option Instr × State) Fault Refusal :=
  match s.host with
  | .force _ :: _ => .refused .busy
  | _ =>
    match s.ph with
    | .send => decoded (.cf s.cmd) s
    | .check => decoded (.rf s.resp) s
    | _ =>
      match s.op with
      | some i => .next (some i, s)
      | none => .fault .illegalPhase

/-- What the next step runs (none: the host issues nothing), and the state it runs in. -/
def fetch (s : State) : Host.Outcome (Option Instr × State) Fault Refusal :=
  match s.ph with
  | .idle => fetchIdle s
  | _ => fetchBusy s

/-- After the block's part of a step the environment and time act (R63). -/
def thenEnvironment : Result → Result
  | .next s => .next (environment s)
  | .fault r => .fault r
  | .refused r => .refused r

/-- The host's lines from the first one it is allowed to hold while the block is busy (R271). -/
def dutiful (lines : List HostLine) : List HostLine :=
  lines.dropWhile fun
    | .force _ => true
    | .issue _ => false
    | .wait _ => false

/-- The encoded instruction stored where the next step finds it: a command word as the host's next line, a command
frame in CMD in phase SEND of an operation that sends it, a response frame in RESP in phase CHECK of RDUART. -/
def placeEncoded (e : Encoded) (s : State) : State :=
  match e with
  | .hc w => { s with ph := .idle, op := none, host := .issue w :: s.host }
  | .cf f =>
    match decodeCF f with
    | .ok i => { s with ph := .send, op := senderOf i, cmd := f, host := dutiful s.host }
    | .error _ => s
  | .rf f => { s with ph := .check, op := some (.rduart 0), resp := f, host := dutiful s.host }

/-- A word of spec/opcode_table.json stored where the next step finds it. -/
def placeTableWord (s : State) (nbits w : Nat) : State :=
  match tableEncoding nbits w with
  | some e => placeEncoded e s
  | none => s

end Sys2Proof.Machine
end

