-- ==== Sys2Proof/Machine/Step.lean ====
section
/-! DEFINITION. One step: fetch, run, then the environment and time act. -/

namespace Sys2Proof.Machine

/-- The step of the machine: the instruction the fetch finds runs in the state the fetch leaves, and the environment
and time act after it (R63). With nothing to run they act alone. -/
def step (s : State) : Host.Outcome State Fault Refusal :=
  match fetch s with
  | .next (some i, t) => thenEnvironment (exec i t)
  | .next (none, t) => .next (environment t)
  | .fault r => .fault r
  | .refused r => .refused r

/-- `s` with the word of spec/opcode_table.json placed where the next step fetches it. -/
def State.withFetchWord (s : State) (nbits w : Nat) : State :=
  placeTableWord s nbits w

end Sys2Proof.Machine
end

