-- ==== Sys2Proof/Safety.lean ====
section
/-! DEFINITION. What claims speak of: legal parameters and straps (R176, R291, D4), the invariant every step keeps, and
the words for "this operation is in this phase". -/

namespace Sys2Proof.Machine

/-- The constraint on the timing of a known variant: `0 < MIN_INTERVAL[v] <= WARMUP[v]` (R176, R291). -/
def timingLegal (t : Timing) : Bool :=
  decide (0 < t.minInterval) && decide (t.minInterval ≤ t.warmup)

/-- The constraint on STATUS_CODE: injective, all values negative (R97, D4). -/
def codesLegal (c : StatusCodes) : Bool :=
  let l := [c.noResponse, c.checksumMismatch, c.incomplete, c.notReady, c.pwmNotConfigured, c.serialNotConfigured,
    c.badSpanValue]
  l.all (fun v => decide (v < 0)) && decide l.Nodup

/-- The constraints on the open parameters (the last table of 92_eei_decisions.md). -/
def paramsLegal (p : Params) : Bool :=
  timingLegal p.timingA && timingLegal p.timingB && decide (0 < p.pollStep) && decide (0 < p.pwmTimeout) &&
    codesLegal p.codes

/-- The legal start states: VARIANT = U only under the policy permissive (R174, R291). -/
def strapsLegal (p : Params) (v : Variant) : Bool :=
  !(decide (p.policy = .refuse) && decide (v = .U))

/-- A construction with legal parameters and a legal VARIANT strap. CFG = (0, 0) is reserved but defined (R28, D23). -/
def constructionLegal (c : Construction) : Bool :=
  paramsLegal c.params && strapsLegal c.params c.variant

/-- Operation `i` is in progress and PH = `p`. -/
def running (i : Instr) (p : Phase) (s : State) : Prop :=
  s.ph = p ∧ s.op = some i

/-- The host presents no word out of turn (R271). -/
def hostDutiful (s : State) : Bool :=
  match s.host with
  | .force _ :: _ => false
  | _ => true

/-- A result with the operation in progress left out of the comparison. -/
def withoutOp : Result → Result
  | .next s => .next { s with op := none }
  | .fault r => .fault r
  | .refused r => .refused r

/-- TXS as a concatenation of command frames (R125). -/
def frameStream : List Byte → Bool
  | [] => true
  | b0 :: b1 :: b2 :: b3 :: b4 :: b5 :: b6 :: b7 :: b8 :: rest =>
    (match decodeCF ⟨b0, b1, b2, b3, b4, b5, b6, b7, b8⟩ with
      | .ok _ => true
      | .error _ => false) && frameStream rest
  | _ => false

/-- While an operation is in progress PH is one of its phases; while none is, PH = IDLE (R24). -/
def sequenced (s : State) : Bool :=
  match s.op with
  | none => decide (s.ph = .idle)
  | some i => allows i s.ph

/-- Past its gates, a serial operation has a serial channel and RDPWM a PWM channel (R50, R211). -/
def channelOpen (s : State) : Bool :=
  match s.op with
  | none => true
  | some (.rdpwm _) => decide (s.ph = .gate) || s.cfg.pwm
  | some i => decide (s.ph = .gate) || (frameOf i).isNone || s.cfg.ser

/-- Past its gates, SETSPAN has an accepted span (R220). -/
def spanChecked (s : State) : Bool :=
  match s.op with
  | some (.setspan v) => decide (s.ph = .gate) || spanAccepted v
  | _ => true

/-- In phase SEND the frame in CMD is the one of the operation in progress (R21, R213). -/
def cmdBuilt (s : State) : Bool :=
  !decide (s.ph = .send) || decide (s.op.bind frameOf = some s.cmd)

/-- Between the readiness gate and the transmission of a known variant: warm, and MIN_INTERVAL past the last request
(R175, R178). -/
def spaced (s : State) : Bool :=
  !(decide (s.ph = .build) || decide (s.ph = .send)) ||
    match timingOf s.params s.variant with
    | some t => decide (t.warmup ≤ s.now) && decide (s.lastreq + t.minInterval ≤ s.now)
    | none => true

/-- After the validator has accepted it, the frame in RESP has its own checksum (R90, R147). -/
def respValid (s : State) : Bool :=
  !((decide (s.ph = .flush) && decide (s.pend = .ok)) || decide (s.ph = .extract)) || s.resp.accepted

/-- What follows the flush is one of the four ways PARSE_RESPONSE ends (R140). -/
def pendLegal (s : State) : Bool :=
  !decide (s.ph = .flush) || decide (s.pend ∈ [.ok, .noResponse, .incomplete, .checksumMismatch])

/-- What LASTTEMP holds: a temperature -40 to 215, the ChecksumMismatch sentinel, or its reset value (R23). -/
def lasttempLegal (s : State) : Bool :=
  (decide (-40 ≤ s.lasttemp) && decide (s.lasttemp ≤ 215)) || decide (s.lasttemp = s.params.codes.checksumMismatch) ||
    decide (s.lasttemp = s.params.lasttempReset)

/-- A failure status comes with the value 0 (R93, R258). -/
def resultsLegal (s : State) : Bool :=
  s.results.all fun r => decide (r.st = .ok) || decide (r.val = 0)

/-- The invariant of the machine: it holds right after a legal construction and every step keeps it. -/
structure Invariant (s : State) : Prop where
  /-- the open parameters meet their constraints -/
  params : paramsLegal s.params = true
  /-- the VARIANT strap is a legal one -/
  straps : strapsLegal s.params s.variant = true
  /-- LASTREQ only ever receives a past value of NOW (R170) -/
  clock : s.lastreq ≤ s.now
  /-- PH and the operation in progress agree -/
  seq : sequenced s = true
  /-- the channel gate has been passed -/
  channel : channelOpen s = true
  /-- the span gate has been passed -/
  span : spanChecked s = true
  /-- CMD is the frame to send -/
  cmd : cmdBuilt s = true
  /-- the readiness gate has been passed -/
  ready : spaced s = true
  /-- K is 0 to POLL_CYCLES in phase WAIT (R25) -/
  poll : s.ph = .wait → s.k ≤ 10
  /-- TH is a non-zero `Pulse` result in phase SCALE (R193) -/
  pulse : s.ph = .scale → 1 ≤ s.th ∧ s.th ≤ s.params.pwmTimeout
  /-- RESP is an accepted frame once the validator has passed it -/
  resp : respValid s = true
  /-- the flush ends in one of four ways -/
  pend : pendLegal s = true
  /-- TXS is a concatenation of command frames -/
  txs : frameStream s.txs = true
  /-- LASTTEMP holds what R23 says it holds -/
  lasttemp : lasttempLegal s = true
  /-- every result word has the form of R93 -/
  results : resultsLegal s = true

end Sys2Proof.Machine
end

