-- ==== Sys2Proof/Certificates/Slice0/Obligations.lean ====
section
/-! DEFINITION. The statements for the provers. Each formalises rules of spec/ about the machine; the docstring names
them. `R<n>` without a file is the rule of that number. -/

section
open Sys2Proof Sys2Proof.Machine

/-! ### Encodings -/

/-- No bit of an encoding is dropped on the way out (R84 to R86, R88, R91, R92, R94): decoding what the encoder writes
for a well-formed instruction, at the place it stands, gives that instruction. The numbering of the command word is
the spec's own (D2); that a frame carries its place is the model's (log 13). -/
def Obligations.DecodeOfEncodeIsTheInstruction : Prop :=
  ∀ i : Instr, i.wf = true → decode (encode i) = .ok i

/-- No bit of an encoding is dropped on the way in: whatever word or frame decodes, the instruction is well formed and
its encoding is that word or frame. The numbering of the command word is the spec's own (D2); that a frame carries its
place is the model's (log 13). -/
def Obligations.EncodeOfDecodeIsTheWord : Prop :=
  ∀ (e : Encoded) (i : Instr), decode e = .ok i → i.wf = true ∧ encode i = e

/-- A few words of 95_test_vectors.md and spec/opcode_table.json decode to what they stand for. The numbering of the
command word is the spec's own (D2). -/
def Obligations.WordsOfTheSpecDecode : Prop :=
  decode (.hc 0x100000000) = .ok (.rduart 0) ∧
  decode (.hc 0x200000000) = .ok (.rdpwm 0) ∧
  decode (.hc 0x4FFFFFFFE) = .ok (.setabc false 0x7FFFFFFF) ∧
  decode (.hc 0x6000007D0) = .ok (.setspan 2000) ∧
  decode (.hc 0x6FFFFFFFF) = .ok (.setspan (-1)) ∧
  decode (.hc 0x900000000) = .ok (.hcReserved9 0) ∧
  decode (.cf ⟨0xFF, 0x01, 0x86, 0, 0, 0, 0, 0, 0x79⟩) = .ok .cmdRead ∧
  decode (.cf ⟨0xFF, 0x01, 0x79, 0xA0, 0, 0, 0, 0, 0xE6⟩) = .ok .cmdAbcOn ∧
  decode (.cf ⟨0xFF, 0x01, 0x88, 0x07, 0xD0, 0, 0, 0, 0xA0⟩) = .ok (.cmdSpan 2000) ∧
  decode (.rf ⟨0xFF, 0x86, 0x01, 0x90, 0x43, 0, 0, 0, 0xA6⟩) = .ok (.resp ⟨0xFF, 0x86, 0x01, 0x90, 0x43, 0, 0, 0, 0xA6⟩)

/-- R99: the strap codes. The codes are the spec's own (D8). -/
def Obligations.StrapCodesOfVariantAndCfg : Prop :=
  variantOfStrap 0 = .A ∧ variantOfStrap 1 = .B ∧ variantOfStrap 2 = .U ∧ variantOfStrap 3 = .U ∧
  ∀ c : BitVec 2, (cfgOfStrap c).ser = c.getLsbD 0 ∧ (cfgOfStrap c).pwm = c.getLsbD 1

/-- R97: the tag of each status, 0 for Ok and 2 to 8 for the failures, and the default codes -2 to -8. The tags are
distinct and equal to `-STATUS_CODE` for the failure statuses under the default table, which is negative throughout.
The numbers are the spec's own default (D4). -/
def Obligations.StatusTagsAndDefaultCodes : Prop :=
  (∀ a b : Status, statusTag a = statusTag b → a = b) ∧
  (∀ st : Status, st ≠ .ok → ∃ c, statusCode Config.defaultCodes st = some c ∧ c < 0 ∧ c = -((statusTag st).toNat : Int)) ∧
  (statusTag .ok = 0 ∧ statusTag .noResponse = 2 ∧ statusTag .checksumMismatch = 3 ∧ statusTag .incomplete = 4 ∧
    statusTag .notReady = 5 ∧ statusTag .pwmNotConfigured = 6 ∧ statusTag .serialNotConfigured = 7 ∧
    statusTag .badSpanValue = 8) ∧
  statusCode Config.defaultCodes .ok = none ∧ statusCode Config.defaultCodes .noResponse = some (-2) ∧
  statusCode Config.defaultCodes .checksumMismatch = some (-3) ∧ statusCode Config.defaultCodes .incomplete = some (-4) ∧
  statusCode Config.defaultCodes .notReady = some (-5) ∧ statusCode Config.defaultCodes .pwmNotConfigured = some (-6) ∧
  statusCode Config.defaultCodes .serialNotConfigured = some (-7) ∧ statusCode Config.defaultCodes .badSpanValue = some (-8)

/-- R98: the integer view of a result word, the 4-bit tag and the signed 32-bit value of R80, and that it loses
information: a temperature of -3 degrees, the sentinel in LASTTEMP and a failed validation look the same; so do RDPWM
at `th = 1` and NoResponse. The tagged pair and the width are the spec's own (D3, D17). -/
def Obligations.IntegerViewOfAResult : Prop :=
  (∀ (c : StatusCodes) (i : Instr) (v : BitVec 32), hasValue i = true → intView c i ⟨.ok, v⟩ = some v.toInt) ∧
  (∀ (c : StatusCodes) (i : Instr) (st : Status) (v : BitVec 32), st ≠ .ok → intView c i ⟨st, v⟩ = statusCode c st) ∧
  (∀ (c : StatusCodes) (a : BitVec 32) (e : Bool) (r : BitVec 31) (s : Int) (v : BitVec 32),
    intView c (.setabc e r) ⟨.ok, v⟩ = none ∧ intView c (.setbg a) ⟨.ok, v⟩ = none ∧ intView c (.setspan s) ⟨.ok, v⟩ = none) ∧
  (∀ r : ResultWord, r.onPort = (statusTag r.st, r.val)) ∧
  (∀ a : BitVec 32,
    intView Config.defaultCodes (.gettemp a) ⟨.ok, -3⟩ = intView Config.defaultCodes (.rduart a) ⟨.checksumMismatch, 0⟩ ∧
    intView Config.defaultCodes (.rdpwm a) ⟨.ok, portVal (pwmDecode 1)⟩ = intView Config.defaultCodes (.rduart a) ⟨.noResponse, 0⟩)

/-! ### Checksum Unit and frames -/

/-- R111: CHECKSUM is the two's-complement negation of the 8-bit sum of bytes 1 to 7; its corner cases; the three
formulas of the document agree; accumulating in 8 bits gives the same sum. The spec marks R111 as derived from R110.
-/
def Obligations.ChecksumNegatesTheBodySum : Prop :=
  ∀ f : Frame,
    let S := f.b1.toNat + f.b2.toNat + f.b3.toNat + f.b4.toNat + f.b5.toNat + f.b6.toNat + f.b7.toNat
    (checksum f).toNat = (0x100 - S % 256) % 256 ∧
    ((checksum f).toNat : Int) = (-(S : Int)) % 256 ∧
    (S + (checksum f).toNat) % 256 = 0 ∧
    (S % 256 = 0 → checksum f = 0x00) ∧
    (S % 256 = 1 → checksum f = 0xFF) ∧
    (S % 256 = 0xFF → checksum f = 0x01) ∧
    (checksum f).toNat = ((0xFF - S % 256) % 256 + 1) % 256 ∧
    (checksum f).toNat = (0xFF - S % 256 + 1) % 256 ∧
    S ≤ 1785 ∧
    (f.b1 + f.b2 + f.b3 + f.b4 + f.b5 + f.b6 + f.b7).toNat = S % 256

/-- R112: CHECKSUM reads neither byte 0 nor byte 8, so recomputing it on a frame that carries it gives the same value.
-/
def Obligations.ChecksumIgnoresStartAndItself : Prop :=
  (∀ (f : Frame) (x y : Byte), checksum ⟨x, f.b1, f.b2, f.b3, f.b4, f.b5, f.b6, f.b7, y⟩ = checksum f) ∧
  (∀ f : Frame, f.b8 = checksum f → checksum { f with b8 := checksum f } = f.b8)

/-- R87: the span immediate, big-endian over frame bytes 3 and 4. -/
def Obligations.SpanSplitsBigEndian : Prop :=
  (∀ n : Nat, 1000 ≤ n → n ≤ 5000 →
    (frameSpan n).b3.toNat = n / 256 ∧ (frameSpan n).b4.toNat = n % 256 ∧
    n = 256 * (frameSpan n).b3.toNat + (frameSpan n).b4.toNat ∧
    3 ≤ (frameSpan n).b3.toNat ∧ (frameSpan n).b3.toNat ≤ 19 ∧ n < 2 ^ 13) ∧
  (frameSpan 2000).b3 = 7 ∧ (frameSpan 2000).b4 = 208

/-- R91: the nine bytes of CMD_SPAN(n), the checksum byte included. The spec marks the closed form of the checksum
byte as derived from R110. -/
def Obligations.SpanFrameBytes : Prop :=
  (∀ n : Nat, 1000 ≤ n → n ≤ 5000 →
    ∃ cs : Byte,
      frameSpan n = ⟨0xFF, 0x01, 0x88, BitVec.ofNat 8 (n / 256), BitVec.ofNat 8 (n % 256), 0x00, 0x00, 0x00, cs⟩ ∧
      (cs.toNat : Int) = (0x77 - (n / 256 : Int) - (n % 256 : Int)) % 256) ∧
  frameSpan 2000 = ⟨0xFF, 0x01, 0x88, 0x07, 0xD0, 0x00, 0x00, 0x00, 0xA0⟩

/-- R126: every command frame has the start marker, the address, three zero bytes and its own checksum. The spec marks
R126 as derived from R120 to R123 and R111. -/
def Obligations.CommandFramesKeepFrameInvariant : Prop :=
  ∀ (i : Instr) (f : Frame), i.wf = true → encode i = .cf f →
    f.b0 = 0xFF ∧ f.b1 = 0x01 ∧ f.b5 = 0x00 ∧ f.b6 = 0x00 ∧ f.b7 = 0x00 ∧ f.b8 = checksum f ∧
    (f.b1.toNat + f.b2.toNat + f.b3.toNat + f.b4.toNat + f.b5.toNat + f.b6.toNat + f.b7.toNat + f.b8.toNat) % 256 = 0

/-- R125: the frames the block can emit are pairwise distinct, and CMD holds one of them exactly when it decodes. The
spec marks R125 as derived from R120 to R123. -/
def Obligations.CommandFramesAreDistinct : Prop :=
  (∀ i j : Instr, ∀ f : Frame, i.wf = true → j.wf = true → encode i = .cf f → encode j = .cf f → i = j) ∧
  (∀ f : Frame, (∃ i, decodeCF f = .ok i) ↔
    f = ⟨0xFF, 0x01, 0x86, 0, 0, 0, 0, 0, 0x79⟩ ∨ f = ⟨0xFF, 0x01, 0x79, 0xA0, 0, 0, 0, 0, 0xE6⟩ ∨
    f = ⟨0xFF, 0x01, 0x79, 0, 0, 0, 0, 0, 0x86⟩ ∨ f = ⟨0xFF, 0x01, 0x87, 0, 0, 0, 0, 0, 0x78⟩ ∨
    ∃ n, 1000 ≤ n ∧ n ≤ 5000 ∧ f = frameSpan n)

/-- R89: the fields of a response, their ranges, and that nothing is checked: they are functions of any frame. -/
def Obligations.ResponseFieldsAndRanges : Prop :=
  ∀ r : Frame,
    r.ppm = 256 * (r.b2.toNat : Int) + r.b3.toNat ∧ 0 ≤ r.ppm ∧ r.ppm ≤ 65535 ∧ r.ppm = ((r.b2 ++ r.b3 : BitVec 16).toNat : Int) ∧
    r.temperature = (r.b4.toNat : Int) - 40 ∧ -40 ≤ r.temperature ∧ r.temperature ≤ 215 ∧
    r.sensorStatus = r.b5 ∧ r.sensorStatus.toNat ≤ 255

/-! ### The PWM scaler -/

/-- R192: PWM_DECODE(th) is exactly `2 * (th - 2)`, with remainder 0, under either convention of integer division; its
consequences (a) to (e). The spec marks R192 as derived from R191. -/
def Obligations.PwmScalerIsExact : Prop :=
  (∀ th : Int,
    th + (1004 - th) - 4 = 1000 ∧ pwmDecode th = 2 * (th - 2) ∧ 1000 * pwmDecode th = 2000 * (th - 2) ∧
    pwmDecode th = (2000 * (th - 2)) / 1000 ∧ pwmDecode th % 2 = 0 ∧ pwmDecode (th + 1) = pwmDecode th + 2 ∧
    (1 ≤ th → pwmDecode th < 0 → th = 1)) ∧
  pwmDecode 2 = 0 ∧ pwmDecode 1 = -2 ∧ pwmDecode 1002 = 2000 ∧ pwmDecode 1004 = 2004 ∧ pwmDecode 2000 = 3996

/-! ### Readiness -/

/-- R171: IS_PREHEATING is `NOW < WARMUP[v]` for the two known variants and false for U, it is true at NOW = 0, and
once false it stays false whatever step is taken. -/
def Obligations.PreheatingRule : Prop :=
  (∀ s : State, s.variant = .A → (isPreheating s = true ↔ s.now < s.params.timingA.warmup)) ∧
  (∀ s : State, s.variant = .B → (isPreheating s = true ↔ s.now < s.params.timingB.warmup)) ∧
  (∀ s : State, s.variant = .U → isPreheating s = false) ∧
  (∀ s : State, paramsLegal s.params = true → s.variant ≠ .U → s.now = 0 → isPreheating s = true) ∧
  (∀ s t : State, step s = .next t → isPreheating s = false → isPreheating t = false)

/-- R172: IS_READY is false while preheating, then the interval test on integers, exact at its boundary; true for U;
it is true exactly where the state of R170 is Ready. -/
def Obligations.ReadyRule : Prop :=
  ∀ s : State,
    (s.variant = .A → (isReady s = true ↔
      ¬ s.now < s.params.timingA.warmup ∧ ¬ (s.now : Int) - s.lastreq < s.params.timingA.minInterval)) ∧
    (s.variant = .B → (isReady s = true ↔
      ¬ s.now < s.params.timingB.warmup ∧ ¬ (s.now : Int) - s.lastreq < s.params.timingB.minInterval)) ∧
    (s.variant = .U → isReady s = true) ∧
    (isReady s = true → isPreheating s = false) ∧
    (isReady s = true ↔ readiness s = .ready) ∧
    (isPreheating s = true ↔ readiness s = .preHeating)

/-- R170: the three readiness states of a known variant are exclusive, exhaustive, and `t - q >= 0` in every state
that meets the invariant. -/
def Obligations.ReadinessStates : Prop :=
  ∀ (s : State) (t : Timing), Invariant s → timingOf s.params s.variant = some t →
    (0 : Int) ≤ (s.now : Int) - s.lastreq ∧
    (readiness s = .preHeating ↔ s.now < t.warmup) ∧
    (readiness s = .coolingDown ↔ t.warmup ≤ s.now ∧ (s.now : Int) - s.lastreq < t.minInterval) ∧
    (readiness s = .ready ↔ t.warmup ≤ s.now ∧ (t.minInterval : Int) ≤ (s.now : Int) - s.lastreq)

/-- R174: an unrecognised variant is never preheating and always ready; under the policy `refuse` it is no legal start
state. Keeping the permissive policy beside the refusing one is the spec's own decision (D9); the refusal's form is
the model's (log 18). -/
def Obligations.UnknownVariantIsAlwaysReadyOrRefused : Prop :=
  (∀ s : State, s.variant = .U → isPreheating s = false ∧ isReady s = true ∧ readiness s = .ready) ∧
  (∀ c : Construction, c.params.policy = .refuse → c.variant = .U → constructChecked c = .refused .unknownVariant) ∧
  (∀ c : Construction, c.params.policy = .permissive ∨ c.variant ≠ .U → constructChecked c = .next (State.construct c))

/-- R176: with LASTREQ still at its reset value, a known variant with legal parameters is Ready at NOW = WARMUP[v]:
the block passes from PreHeating directly to Ready. The spec marks this path as derived from R170 to R172 and R30. -/
def Obligations.WarmupEndsInReady : Prop :=
  ∀ (s : State) (t : Timing), paramsLegal s.params = true → timingOf s.params s.variant = some t → s.lastreq = 0 →
    (s.now < t.warmup → readiness s = .preHeating) ∧ (t.warmup ≤ s.now → readiness s = .ready)

/-! ### Reset -/

/-- R290, R40: what construction leaves, whatever the straps, the parameters and the unspecified values are. LASTREQ =
0 is the spec's own decision (D6); that the result log and the operation in progress start empty is the model's (logs
7 and 8). -/
def Obligations.ConstructionLeavesTheResetValues : Prop :=
  ∀ c : Construction,
    (State.construct c).variant = c.variant ∧ (State.construct c).cfg = c.cfg ∧ (State.construct c).now = 0 ∧
    (State.construct c).lastreq = 0 ∧ (State.construct c).lasttemp = c.params.lasttempReset ∧
    (State.construct c).ph = .idle ∧ (State.construct c).txs = [] ∧ (State.construct c).rxq = c.rxq ∧
    (State.construct c).op = none ∧ (State.construct c).results = [] ∧
    (constructionLegal c = true → c.variant ≠ .U →
      isPreheating (State.construct c) = true ∧ isReady (State.construct c) = false) ∧
    (c.variant = .U → isReady (State.construct c) = true)

/-- Every legal construction meets the invariant. The fields the model adds (logs 7 and 8) are part of it. -/
def Obligations.ConstructionMeetsInv : Prop :=
  ∀ c : Construction, constructionLegal c = true → Invariant (State.construct c)

/-- The machine after reset meets the invariant, whatever the free values are. Its straps and its scratch registers
are the model's choice (logs 10 and 11). -/
def Obligations.ResetMeetsInv : Prop :=
  Invariant State.reset

/-! ### The invariant and the machine as a whole -/

/-- Every step keeps the invariant, in every state that meets it, whatever the environment does. The cut of an
operation into steps is the model's (log 1). -/
def Obligations.StepKeepsInv : Prop :=
  ∀ s t : State, Invariant s → step s = .next t → Invariant t

/-- From a state that meets the invariant no step faults, and a step is refused only where the host does what the spec
forbids it: in IDLE its next word carries a reserved op_sel, 0x0 or 0x9 to 0xF (R96), and the refusal names that
op_sel; or it presents a word while the block is busy (R212). The two refusals are the spec's own decisions (D2, D20;
logs 15 and 16). -/
def Obligations.StepStopsOnlyOnHostMisuse : Prop :=
  ∀ s : State, Invariant s →
    (∀ r, step s ≠ .fault r) ∧
    (∀ r, step s = .refused r →
      (∃ sel w rest, r = .reservedOpSel sel ∧ s.ph = .idle ∧ (s.host = .issue w :: rest ∨ s.host = .force w :: rest) ∧
        sel = w.extractLsb' 32 4 ∧ (sel = 0 ∨ 9 ≤ sel.toNat)) ∨
      (r = .busy ∧ s.ph ≠ .idle ∧ ∃ w rest, s.host = .force w :: rest))

/-- A step runs the decoded instruction: the host's next word in phase IDLE, the frame in CMD in phase SEND, the frame
in RESP in phase CHECK, the operation in progress in the other phases; then time passes and bytes join RXQ, and
nothing else changes. A fault or a refusal ends the step as it is. The cut into steps, the script of acts and frames
as instructions are the model's (logs 1, 2 and 13). -/
def Obligations.StepRunsTheDecodedInstruction : Prop :=
  (∀ (s : State) (w : HCWord) (rest : List HostLine) (i : Instr),
    s.ph = .idle → s.host = .issue w :: rest ∨ s.host = .force w :: rest → decode (.hc w) = .ok i →
    step s = thenEnvironment (exec i { s with host := rest })) ∧
  (∀ (s : State) (i : Instr),
    s.ph = .send → hostDutiful s = true → decode (.cf s.cmd) = .ok i → step s = thenEnvironment (exec i s)) ∧
  (∀ (s : State) (i : Instr),
    s.ph = .check → hostDutiful s = true → decode (.rf s.resp) = .ok i → step s = thenEnvironment (exec i s)) ∧
  (∀ (s : State) (i : Instr),
    s.ph ≠ .idle → s.ph ≠ .send → s.ph ≠ .check → hostDutiful s = true → s.op = some i →
    step s = thenEnvironment (exec i s)) ∧
  (∀ u : State,
    thenEnvironment (.next u) =
      .next { u with now := u.now + u.act.dt, rxq := u.rxq ++ u.act.rx, env := u.env.tail, draws := u.draws + 1 }) ∧
  (∀ e : Fault, thenEnvironment (.fault e) = .fault e) ∧ ∀ e : Refusal, thenEnvironment (.refused e) = .refused e

/-- Phase IDLE with nothing to run: the whole next state. Time passes and bytes join RXQ as the script's next act
says, or the free value where the script is used up; `WAIT(d)` lets at least `d` pass and takes its line; nothing else
changes. The host's lines and the script of acts held in State are the model's (logs 2 and 6). -/
def Obligations.IdleStepLetsTimePass : Prop :=
  (∀ s : State, s.ph = .idle → s.host = [] →
    step s = .next { s with now := s.now + s.act.dt, rxq := s.rxq ++ s.act.rx, env := s.env.tail, draws := s.draws + 1 }) ∧
  (∀ (s : State) (d : Nat) (rest : List HostLine), s.ph = .idle → s.host = .wait d :: rest →
    step s =
      .next { s with
        now := s.now + (d + s.act.delay) + s.act.dt, rxq := s.rxq ++ s.act.arrive ++ s.act.rx, host := rest,
        env := s.env.tail, draws := s.draws + 1 }) ∧
  (∀ (s : State) (x : EnvAct) (later : List EnvAct), s.env = x :: later → s.act = x) ∧
  (∀ s : State, s.env = [] → s.act = Config.environment s.draws)

/-- The straps and the parameters never change, NOW never decreases, TXS only grows, and only by the nine bytes of CMD
in phase SEND (R27, R28, R29, R31, R36). That the open parameters stand in State is the model's (log 9). -/
def Obligations.StepKeepsConfigurationAndTime : Prop :=
  ∀ s t : State, step s = .next t →
    t.variant = s.variant ∧ t.cfg = s.cfg ∧ t.params = s.params ∧ s.now ≤ t.now ∧
    (t.txs = s.txs ∨ (s.ph = .send ∧ t.txs = s.txs ++ s.cmd.toList))

/-- LASTREQ is written by SEND only, with a value of NOW between the beginning and the end of that step, and a step of
SEND always appends CMD to TXS and writes LASTREQ (R30). The order write, stamp, sleep is the spec's own decision
(D14). -/
def Obligations.LastreqIsStampedBySendOnly : Prop :=
  ∀ s t : State, step s = .next t →
    (s.ph ≠ .send → t.lastreq = s.lastreq) ∧
    (s.ph = .send → s.now ≤ t.lastreq ∧ t.lastreq ≤ t.now ∧ t.txs = s.txs ++ s.cmd.toList)

/-- LASTTEMP is written in two places only: the validator's mismatch writes the sentinel, the extraction of RDUART the
temperature (R23). The extraction as a step of its own is the model's cut (log 1). -/
def Obligations.LasttempHasTwoWriters : Prop :=
  ∀ s t : State, step s = .next t →
    t.lasttemp = s.lasttemp ∨
    (s.ph = .check ∧ s.resp.b8 ≠ checksum s.resp ∧ t.lasttemp = s.params.codes.checksumMismatch) ∨
    (s.ph = .extract ∧ (∃ a, s.op = some (.rduart a)) ∧ t.lasttemp = (s.resp.b4.toNat : Int) - 40)

/-- A transmission of a known variant is stamped no earlier than WARMUP[v], and at least MIN_INTERVAL[v] after the
stamp before it (R175, R178). The spec marks R175 as derived. -/
def Obligations.TransmissionsAreSpaced : Prop :=
  ∀ (s t : State) (tm : Timing), Invariant s → step s = .next t → timingOf s.params s.variant = some tm → t.txs ≠ s.txs →
    tm.warmup ≤ t.lastreq ∧ s.lastreq + tm.minInterval ≤ t.lastreq

/-- An operation ends with exactly one result word, and no other step delivers one (R93). The handshake is the spec's
own (D1, D3); the log of results is the model's (log 7). -/
def Obligations.OneResultWordPerOperation : Prop :=
  ∀ s t : State, Invariant s → step s = .next t →
    (t.results = s.results ∧ (s.op = none ∨ t.op = s.op)) ∨
    (∃ r, t.results = s.results ++ [r] ∧ s.op ≠ none ∧ t.op = none ∧ t.ph = .idle)

/-- Every integer the rules give reaches the 32 signed bits of the result port exactly (R93, R309): ppm, the scaled
PWM value with its intermediate product, the cached temperature and the two predicates; a failure or a void operation
gives 0. The pulse timeout is at most 1,073,000, and STATUS_CODE(ChecksumMismatch) and LASTTEMP_RESET fit 32 bits
themselves. The width is the spec's own decision (D17); one phase a step is the model's cut (log 1). -/
def Obligations.ResultValuesFitThePort : Prop :=
  ∀ (s t : State) (r : ResultWord), Invariant s → step s = .next t → t.results = s.results ++ [r] →
    s.params.pwmTimeout ≤ 1073000 → -(2 ^ 31) ≤ s.params.codes.checksumMismatch →
    -(2 ^ 31) ≤ s.params.lasttempReset → s.params.lasttempReset < 2 ^ 31 →
    (r.st ≠ .ok → r.val = 0) ∧
    (s.ph = .settle → r = ⟨.ok, 0⟩) ∧
    (s.ph = .extract → r.st = .ok ∧ r.val.toInt = s.resp.ppm) ∧
    (s.ph = .scale → r.st = .ok ∧ r.val.toInt = 2 * ((s.th : Int) - 2) ∧ 2000 * ((s.th : Int) - 2) < 2 ^ 31) ∧
    (s.ph = .gate → r.st = .ok → ∀ a : BitVec 32,
      (s.op = some (.gettemp a) → r.val.toInt = s.lasttemp) ∧
      (s.op = some (.ispre a) → r.val.toInt = if isPreheating s then 1 else 0) ∧
      (s.op = some (.isrdy a) → r.val.toInt = if isReady s then 1 else 0))

/-- Every path of PARSE_RESPONSE goes through FLUSH, and only there is the queue emptied (R149): the phases before it
lead to one another or to FLUSH and deliver nothing; WAIT and CHECK only append to RXQ, RESYNC discards at most one
byte, READ takes at most nine; FLUSH empties the queue and then either ends the operation or lets EXTRACT follow;
EXTRACT, the only phase after it, leaves RXQ alone. The phases are the spec's own decomposition (D25); the cut into
steps and the script of acts are the model's (logs 1 and 2). -/
def Obligations.EveryParsePathFlushesOnce : Prop :=
  (∀ s t : State, s.ph = .wait ∨ s.ph = .resync ∨ s.ph = .read ∨ s.ph = .check → step s = .next t →
    t.results = s.results ∧ (t.ph = .wait ∨ t.ph = .resync ∨ t.ph = .read ∨ t.ph = .check ∨ t.ph = .flush) ∧
    (s.ph = .wait → t.rxq = s.rxq ++ s.act.rx ∨ t.rxq = s.rxq ++ s.act.arrive ++ s.act.rx) ∧
    (s.ph = .resync →
      t.rxq = s.rxq ++ s.act.rx ∨ ∃ b rest, s.rxq = b :: rest ∧ b ≠ 0xFF ∧ t.rxq = rest ++ s.act.rx) ∧
    (s.ph = .read →
      (s.rxq = [] ∧ t.rxq = s.act.rx) ∨ ∃ c ≤ 9, t.rxq = (s.rxq ++ s.act.arrive).drop c ++ s.act.rx) ∧
    (s.ph = .check → t.rxq = s.rxq ++ s.act.rx)) ∧
  (∀ s t : State, s.ph = .flush → step s = .next t → t.rxq = s.act.rx ∧
    ((s.pend ≠ .ok ∧ t.ph = .idle ∧ t.results = s.results ++ [⟨s.pend, 0⟩]) ∨
      (s.pend = .ok ∧ t.ph = .extract ∧ t.results = s.results))) ∧
  (∀ s t : State, s.ph = .extract → step s = .next t → t.ph = .idle ∧ t.rxq = s.rxq ++ s.act.rx)

/-! ### Stops -/

/-- R96: the command port does not accept a reserved op_sel, in any state; the model refuses it by name. The
reservation is the spec's own decision (D2); the refusal's form is the model's (log 15). -/
def Obligations.ReservedOpSelIsRefused : Prop :=
  ∀ (s : State) (arg : BitVec 32),
    exec (.hcReserved0 arg) s = .refused (.reservedOpSel 0x0) ∧ exec (.hcReserved9 arg) s = .refused (.reservedOpSel 0x9) ∧
    exec (.hcReservedA arg) s = .refused (.reservedOpSel 0xA) ∧ exec (.hcReservedB arg) s = .refused (.reservedOpSel 0xB) ∧
    exec (.hcReservedC arg) s = .refused (.reservedOpSel 0xC) ∧ exec (.hcReservedD arg) s = .refused (.reservedOpSel 0xD) ∧
    exec (.hcReservedE arg) s = .refused (.reservedOpSel 0xE) ∧ exec (.hcReservedF arg) s = .refused (.reservedOpSel 0xF) ∧
    (∀ (w : HCWord) (rest : List HostLine), s.ph = .idle → s.host = .issue w :: rest →
      (w.extractLsb' 32 4 = 0 ∨ 9 ≤ (w.extractLsb' 32 4).toNat) →
      step s = .refused (.reservedOpSel (w.extractLsb' 32 4)))

/-- R212: an operation presented while another one runs is not accepted. The refusal is the spec's own decision (D20;
log 16). -/
def Obligations.OperationWhileBusyIsRefused : Prop :=
  (∀ (s : State) (w : HCWord) (rest : List HostLine), s.ph ≠ .idle → s.host = .force w :: rest → step s = .refused .busy) ∧
  (∀ (s : State) (a : BitVec 32) (e : Bool) (r : BitVec 31) (v : Int), s.ph ≠ .idle →
    (s.op ≠ some (.rduart a) → exec (.rduart a) s = .refused .busy) ∧
    (s.op ≠ some (.rdpwm a) → exec (.rdpwm a) s = .refused .busy) ∧
    (s.op ≠ some (.gettemp a) → exec (.gettemp a) s = .refused .busy) ∧
    (s.op ≠ some (.setabc e r) → exec (.setabc e r) s = .refused .busy) ∧
    (s.op ≠ some (.setbg a) → exec (.setbg a) s = .refused .busy) ∧
    (s.op ≠ some (.setspan v) → exec (.setspan v) s = .refused .busy) ∧
    (s.op ≠ some (.ispre a) → exec (.ispre a) s = .refused .busy) ∧
    (s.op ≠ some (.isrdy a) → exec (.isrdy a) s = .refused .busy))

/-! ### Command frames and the response frame -/

/-- A command frame in phase SEND (R213 with R84, R85, R86, R91): its nine bytes, byte 0 first, join TXS; LASTREQ is
stamped with NOW as it is after the write; SETTLE follows; nothing else changes but what the environment does
meanwhile. The order write, stamp, sleep is the spec's own decision (D14); a frame as an instruction is the model's
(log 13). -/
def Obligations.CommandFrameIsTransmittedAndStamped : Prop :=
  ∀ s : State, s.ph = .send →
    (let sent (bytes : List Byte) : State :=
      { s with
        txs := s.txs ++ bytes, now := s.now + s.act.delay, lastreq := s.now + s.act.delay,
        rxq := s.rxq ++ s.act.arrive, ph := .settle }
    exec .cmdRead s = .next (sent [0xFF, 0x01, 0x86, 0x00, 0x00, 0x00, 0x00, 0x00, 0x79]) ∧
    exec .cmdAbcOn s = .next (sent [0xFF, 0x01, 0x79, 0xA0, 0x00, 0x00, 0x00, 0x00, 0xE6]) ∧
    exec .cmdAbcOff s = .next (sent [0xFF, 0x01, 0x79, 0x00, 0x00, 0x00, 0x00, 0x00, 0x86]) ∧
    exec .cmdBg s = .next (sent [0xFF, 0x01, 0x87, 0x00, 0x00, 0x00, 0x00, 0x00, 0x78]) ∧
    ∀ n : Nat, 1000 ≤ n → n ≤ 5000 →
      exec (.cmdSpan n) s = .next (sent [0xFF, 0x01, 0x88, BitVec.ofNat 8 (n / 256), BitVec.ofNat 8 (n % 256), 0x00, 0x00, 0x00,
        BitVec.ofInt 8 (0x77 - (n / 256 : Int) - (n % 256 : Int))]))

/-- A transmission moves a known variant, warm and with legal parameters, to CoolingDown at once (R173). A frame as an
instruction is the model's (log 13). -/
def Obligations.TransmissionEntersCoolingDown : Prop :=
  ∀ (s t : State) (tm : Timing), Invariant s → s.ph = .send → timingOf s.params s.variant = some tm →
    exec .cmdRead s = .next t ∨ exec .cmdAbcOn s = .next t ∨ exec .cmdAbcOff s = .next t ∨ exec .cmdBg s = .next t ∨
      (∃ n, exec (.cmdSpan n) s = .next t) →
    readiness s = .ready ∧ readiness t = .coolingDown

/-- R90: a response frame is accepted if and only if byte 8 is its checksum, equivalently iff bytes 1 to 8 sum to 0
modulo 256; nothing else is checked. Acceptance changes nothing but PH and what follows the flush; a mismatch also
writes the sentinel to LASTTEMP. The spec marks the equivalence as derived from R110; a frame as an instruction is the
model's (log 13). -/
def Obligations.ResponseIsAcceptedByChecksumAlone : Prop :=
  ∀ (s : State) (r : Frame), s.ph = .check →
    let S := r.b1.toNat + r.b2.toNat + r.b3.toNat + r.b4.toNat + r.b5.toNat + r.b6.toNat + r.b7.toNat
    (r.b8.toNat = (0x100 - S % 256) % 256 ↔ r.b8 = checksum r) ∧
    (r.b8.toNat = (0x100 - S % 256) % 256 ↔ (S + r.b8.toNat) % 256 = 0) ∧
    (r.b8.toNat = (0x100 - S % 256) % 256 → exec (.resp r) s = .next { s with pend := .ok, ph := .flush }) ∧
    (r.b8.toNat ≠ (0x100 - S % 256) % 256 →
      exec (.resp r) s =
        .next { s with lasttemp := s.params.codes.checksumMismatch, pend := .checksumMismatch, ph := .flush })

/-- The status byte of a response and its bytes 1, 6 and 7 play no part once the frame is accepted (R215): in phase
EXTRACT two frames in RESP that agree in bytes 2, 3 and 4 give the same result word and the same LASTTEMP. That the
status byte is not kept is the spec's own decision (D16). -/
def Obligations.SensorStatusByteHasNoEffect : Prop :=
  ∀ (s : State) (a : BitVec 32) (f g : Frame), running (.rduart a) .extract s → f.b2 = g.b2 → f.b3 = g.b3 → f.b4 = g.b4 →
    ∃ t u, exec (.rduart a) { s with resp := f } = .next t ∧ exec (.rduart a) { s with resp := g } = .next u ∧
      t.results = u.results ∧ t.lasttemp = u.lasttemp ∧ t.ph = u.ph ∧
      t.results = s.results ++ [⟨.ok, BitVec.ofInt 32 (256 * (f.b2.toNat : Int) + f.b3.toNat)⟩]

/-! ### Host operations -/

/-- The command port takes each of the eight operations in phase IDLE: PH becomes GATE, nothing else changes (R24).
The phases are the spec's own decomposition (D25). -/
def Obligations.EveryOperationStartsAtGate : Prop :=
  ∀ (s : State) (a : BitVec 32) (e : Bool) (r : BitVec 31) (v : Int), s.ph = .idle →
    exec (.rduart a) s = .next { s with op := some (.rduart a), ph := .gate } ∧
    exec (.rdpwm a) s = .next { s with op := some (.rdpwm a), ph := .gate } ∧
    exec (.gettemp a) s = .next { s with op := some (.gettemp a), ph := .gate } ∧
    exec (.setabc e r) s = .next { s with op := some (.setabc e r), ph := .gate } ∧
    exec (.setbg a) s = .next { s with op := some (.setbg a), ph := .gate } ∧
    exec (.setspan v) s = .next { s with op := some (.setspan v), ph := .gate } ∧
    exec (.ispre a) s = .next { s with op := some (.ispre a), ph := .gate } ∧
    exec (.isrdy a) s = .next { s with op := some (.isrdy a), ph := .gate }

/-- An argument the table calls ignored may hold any value and does not change the operation (R92). The command word
is the spec's own (D2). -/
def Obligations.IgnoredArgumentBitsChangeNothing : Prop :=
  ∀ (s : State) (a b : BitVec 32) (e : Bool) (p q : BitVec 31),
    (let run (i : Instr) : Result := withoutOp (exec i { s with op := some i })
    run (.rduart a) = run (.rduart b) ∧ run (.rdpwm a) = run (.rdpwm b) ∧ run (.gettemp a) = run (.gettemp b) ∧
    run (.setbg a) = run (.setbg b) ∧ run (.ispre a) = run (.ispre b) ∧ run (.isrdy a) = run (.isrdy b) ∧
    run (.setabc e p) = run (.setabc e q))

/-- The gates of RDUART, SETABC and SETBG in their order (R211, R251, R253): a failure ends the operation with its
status and changes nothing else; otherwise BUILD follows. The phases are the spec's own decomposition (D25). -/
def Obligations.SerialGatesInOrder : Prop :=
  ∀ (i : Instr) (s : State) (a : BitVec 32) (e : Bool) (r : BitVec 31),
    i = .rduart a ∨ i = .setabc e r ∨ i = .setbg a → running i .gate s →
    (s.cfg.ser = false →
      exec i s = .next { s with results := s.results ++ [⟨.serialNotConfigured, 0⟩], ph := .idle, op := none }) ∧
    (s.cfg.ser = true → readiness s ≠ .ready →
      exec i s = .next { s with results := s.results ++ [⟨.notReady, 0⟩], ph := .idle, op := none }) ∧
    (s.cfg.ser = true → readiness s = .ready → exec i s = .next { s with ph := .build })

/-- The gates of SETSPAN (R211, R220, R254, R261): the span first, in every configuration and readiness state. -/
def Obligations.SetspanGatesInOrder : Prop :=
  ∀ (v : Int) (s : State), running (.setspan v) .gate s →
    (v < 1000 ∨ 5000 < v →
      exec (.setspan v) s = .next { s with results := s.results ++ [⟨.badSpanValue, 0⟩], ph := .idle, op := none }) ∧
    (1000 ≤ v → v ≤ 5000 → s.cfg.ser = false →
      exec (.setspan v) s = .next { s with results := s.results ++ [⟨.serialNotConfigured, 0⟩], ph := .idle, op := none }) ∧
    (1000 ≤ v → v ≤ 5000 → s.cfg.ser = true → readiness s ≠ .ready →
      exec (.setspan v) s = .next { s with results := s.results ++ [⟨.notReady, 0⟩], ph := .idle, op := none }) ∧
    (1000 ≤ v → v ≤ 5000 → s.cfg.ser = true → readiness s = .ready → exec (.setspan v) s = .next { s with ph := .build })

/-- GETTEMP (R216): gated by the channel and by warm-up, not by the interval; then whatever LASTTEMP holds, with
status Ok, in the 32 signed bits of the port. A cache that does not fit them has no stated value and is a free one
(log 28). Returning the sentinel with status Ok is the spec's own decision (D27). -/
def Obligations.GettempReturnsTheCache : Prop :=
  ∀ (a : BitVec 32) (s : State), running (.gettemp a) .gate s →
    (s.cfg.ser = false →
      exec (.gettemp a) s = .next { s with results := s.results ++ [⟨.serialNotConfigured, 0⟩], ph := .idle, op := none }) ∧
    (s.cfg.ser = true → readiness s = .preHeating →
      exec (.gettemp a) s = .next { s with results := s.results ++ [⟨.notReady, 0⟩], ph := .idle, op := none }) ∧
    (s.cfg.ser = true → readiness s ≠ .preHeating →
      ∃ w : BitVec 32,
        exec (.gettemp a) s = .next { s with results := s.results ++ [⟨.ok, w⟩], ph := .idle, op := none } ∧
        (-(2 ^ 31) ≤ s.lasttemp → s.lasttemp < 2 ^ 31 → w.toInt = s.lasttemp))

/-- R221: ISPRE is op_sel 0x7; from IDLE it enters GATE; there it returns IS_PREHEATING as 1 or 0 with status Ok, in
every configuration, and writes no register. -/
def Obligations.IspreReturnsPreheating : Prop :=
  ∀ (a : BitVec 32) (s : State),
    decode (.hc (hcWord 0x7 a)) = .ok (.ispre a) ∧
    (s.ph = .idle → exec (.ispre a) s = .next { s with op := some (.ispre a), ph := .gate }) ∧
    (running (.ispre a) .gate s → isPreheating s = true →
      exec (.ispre a) s = .next { s with results := s.results ++ [⟨.ok, 1⟩], ph := .idle, op := none }) ∧
    (running (.ispre a) .gate s → isPreheating s = false →
      exec (.ispre a) s = .next { s with results := s.results ++ [⟨.ok, 0⟩], ph := .idle, op := none })

/-- R223: ISRDY is op_sel 0x8; from IDLE it enters GATE; there it returns IS_READY as 1 or 0 with status Ok, in every
configuration, and writes no register. -/
def Obligations.IsrdyReturnsReady : Prop :=
  ∀ (a : BitVec 32) (s : State),
    decode (.hc (hcWord 0x8 a)) = .ok (.isrdy a) ∧
    (s.ph = .idle → exec (.isrdy a) s = .next { s with op := some (.isrdy a), ph := .gate }) ∧
    (running (.isrdy a) .gate s → isReady s = true →
      exec (.isrdy a) s = .next { s with results := s.results ++ [⟨.ok, 1⟩], ph := .idle, op := none }) ∧
    (running (.isrdy a) .gate s → isReady s = false →
      exec (.isrdy a) s = .next { s with results := s.results ++ [⟨.ok, 0⟩], ph := .idle, op := none })

/-- Phase BUILD of the four sending operations writes all nine bytes of CMD and nothing else (R120 to R124). The
checksum byte of CMD_ABC_OFF is the spec's own reading (D15). -/
def Obligations.BuildersFillCmd : Prop :=
  (∀ (a : BitVec 32) (s : State), running (.rduart a) .build s →
    exec (.rduart a) s = .next { s with cmd := ⟨0xFF, 0x01, 0x86, 0x00, 0x00, 0x00, 0x00, 0x00, 0x79⟩, ph := .send }) ∧
  (∀ (r : BitVec 31) (s : State), running (.setabc true r) .build s →
    exec (.setabc true r) s = .next { s with cmd := ⟨0xFF, 0x01, 0x79, 0xA0, 0x00, 0x00, 0x00, 0x00, 0xE6⟩, ph := .send }) ∧
  (∀ (r : BitVec 31) (s : State), running (.setabc false r) .build s →
    exec (.setabc false r) s = .next { s with cmd := ⟨0xFF, 0x01, 0x79, 0x00, 0x00, 0x00, 0x00, 0x00, 0x86⟩, ph := .send }) ∧
  (∀ (a : BitVec 32) (s : State), running (.setbg a) .build s →
    exec (.setbg a) s = .next { s with cmd := ⟨0xFF, 0x01, 0x87, 0x00, 0x00, 0x00, 0x00, 0x00, 0x78⟩, ph := .send }) ∧
  (∀ (v : Int) (s : State), running (.setspan v) .build s → 1000 ≤ v → v ≤ 5000 →
    ∃ cs : Byte, (cs.toNat : Int) = (0x77 - v / 256 - v % 256) % 256 ∧
      exec (.setspan v) s =
        .next { s with cmd := ⟨0xFF, 0x01, 0x88, BitVec.ofInt 8 (v / 256), BitVec.ofInt 8 (v % 256), 0x00, 0x00, 0x00, cs⟩, ph := .send })

/-- In phase SEND the meaning of a host operation and the meaning of the frame in CMD agree (R213). A frame as an
instruction is the model's (log 13). -/
def Obligations.OperationSendsTheFrameInCmd : Prop :=
  ∀ (i j : Instr) (s : State), running i .send s → frameOf i = some s.cmd → decode (.cf s.cmd) = .ok j →
    exec i s = exec j s ∧ ∃ t, exec i s = .next t ∧ t.txs = s.txs ++ s.cmd.toList ∧ t.ph = .settle

/-- Phase SETTLE (R213, R222): NOW advances by at least SETTLE = 100 ms; a set operation then ends with Ok and reads
no response, RDUART goes on to wait for one. That a set operation reads no response is the spec's own decision (D21).
-/
def Obligations.SettleDelayThenGoOn : Prop :=
  (∀ (i : Instr) (s : State) (a : BitVec 32) (e : Bool) (r : BitVec 31) (v : Int),
    i = .setabc e r ∨ i = .setbg a ∨ i = .setspan v → running i .settle s →
    exec i s =
      .next { s with
        now := s.now + (100 + s.act.delay), rxq := s.rxq ++ s.act.arrive,
        results := s.results ++ [⟨.ok, 0⟩], ph := .idle, op := none }) ∧
  (∀ (a : BitVec 32) (s : State), running (.rduart a) .settle s →
    exec (.rduart a) s =
      .next { s with now := s.now + (100 + s.act.delay), rxq := s.rxq ++ s.act.arrive, k := 0, ph := .wait })

/-- Phase WAIT of RDUART (R141): a sample that finds a byte ends the wait; one that finds none sleeps POLL_STEP, ten
times at most. The reading of the ten cycles is the spec's own decision (D10). -/
def Obligations.WaitLoopSamplesAndSleeps : Prop :=
  ∀ (a : BitVec 32) (s : State), running (.rduart a) .wait s →
    (s.rxq ≠ [] → exec (.rduart a) s = .next { s with ph := .resync }) ∧
    (s.rxq = [] → s.k ≠ 10 →
      exec (.rduart a) s =
        .next { s with now := s.now + (s.params.pollStep + s.act.delay), rxq := s.act.arrive, k := s.k + 1 }) ∧
    (s.rxq = [] → s.k = 10 → exec (.rduart a) s = .next { s with pend := .noResponse, ph := .flush })

/-- Phase RESYNC of RDUART (R143): the scan discards one byte that is not 0xFF, and ends at 0xFF, which it does not
consume, or on an empty queue. -/
def Obligations.ScanDiscardsToTheMarker : Prop :=
  ∀ (a : BitVec 32) (s : State), running (.rduart a) .resync s →
    (s.rxq = [] → exec (.rduart a) s = .next { s with ph := .read }) ∧
    (∀ b rest, s.rxq = b :: rest → b = 0xFF → exec (.rduart a) s = .next { s with ph := .read }) ∧
    (∀ b rest, s.rxq = b :: rest → b ≠ 0xFF → exec (.rduart a) s = .next { s with rxq := rest })

/-- Phase READ of RDUART (R144, R145, R146, R58): nothing queued is Incomplete; otherwise the `c` oldest bytes go to
RESP[0..c-1] with `min(9, |RXQ|) <= c <= 9`, and fewer than 9 are Incomplete. The bounds on the count are the spec's
own decision (D11). -/
def Obligations.ReadTakesNineBytesOrFails : Prop :=
  ∀ (a : BitVec 32) (s : State), running (.rduart a) .read s →
    (s.rxq = [] → exec (.rduart a) s = .next { s with pend := .incomplete, ph := .flush }) ∧
    (s.rxq ≠ [] → ∃ (c : Nat) (t : State),
      min 9 s.rxq.length ≤ c ∧ c ≤ 9 ∧ c ≤ (s.rxq ++ s.act.arrive).length ∧
      exec (.rduart a) s = .next t ∧
      t.resp.toList.take c = (s.rxq ++ s.act.arrive).take c ∧
      t.rxq = (s.rxq ++ s.act.arrive).drop c ∧
      s.now ≤ t.now ∧ t.now ≤ s.now + s.params.readnTimeout ∧
      (c = 9 → t.ph = .check ∧ t.pend = s.pend) ∧
      (c < 9 → t.ph = .flush ∧ t.pend = .incomplete) ∧
      { t with resp := s.resp, rxq := s.rxq, now := s.now, ph := s.ph, pend := s.pend } = s)

/-- Phases FLUSH and EXTRACT of RDUART (R149, R214): the queue is emptied; a failure is raised; else ppm is returned
and LASTTEMP becomes the temperature of the same frame. The phases are the spec's own decomposition (D25). -/
def Obligations.FlushAndExtractEndTheRead : Prop :=
  (∀ (a : BitVec 32) (s : State), running (.rduart a) .flush s →
    (s.pend = .ok → exec (.rduart a) s = .next { s with rxq := [], ph := .extract }) ∧
    (s.pend ≠ .ok →
      exec (.rduart a) s = .next { s with rxq := [], results := s.results ++ [⟨s.pend, 0⟩], ph := .idle, op := none })) ∧
  (∀ (a : BitVec 32) (s : State), running (.rduart a) .extract s →
    exec (.rduart a) s =
      .next { s with
        lasttemp := (s.resp.b4.toNat : Int) - 40,
        results := s.results ++ [⟨.ok, BitVec.ofInt 32 (256 * (s.resp.b2.toNat : Int) + s.resp.b3.toNat)⟩], ph := .idle, op := none })

/-- RDPWM (R219, R193, R194, R252): one gate, no readiness test; each measurement is between 0 and PWM_TIMEOUT; 0 is
measured again; else the scaled value is returned with status Ok, exact wherever the 32 signed bits of the port hold
it and a free value beyond (log 28). Nothing but TH, PH, the result and what the environment does changes (R197). The
range of a pulse is the spec's own decision (D19). -/
def Obligations.RdpwmMeasuresAndScales : Prop :=
  ∀ (a : BitVec 32) (s : State),
    (running (.rdpwm a) .gate s → s.cfg.pwm = false →
      exec (.rdpwm a) s = .next { s with results := s.results ++ [⟨.pwmNotConfigured, 0⟩], ph := .idle, op := none }) ∧
    (running (.rdpwm a) .gate s → s.cfg.pwm = true → exec (.rdpwm a) s = .next { s with ph := .measure }) ∧
    (running (.rdpwm a) .measure s → ∃ d, d ≤ s.params.pwmTimeout ∧
      (s.params.pwmLevel = .high → s.act.pulseHigh ≤ s.params.pwmTimeout → d = s.act.pulseHigh) ∧
      exec (.rdpwm a) s =
        .next { s with
          th := d, now := s.now + s.act.delay, rxq := s.rxq ++ s.act.arrive,
          ph := if d = 0 then .measure else .scale }) ∧
    (running (.rdpwm a) .scale s →
      ∃ w : BitVec 32,
        exec (.rdpwm a) s = .next { s with results := s.results ++ [⟨.ok, w⟩], ph := .idle, op := none } ∧
        ((s.th : Int) ≤ 1073741825 → w.toInt = 2 * ((s.th : Int) - 2)))

/-! ### Whole operations -/

/-- A set operation issued by a dutiful host in state Ready always completes, in five steps (R217, R218, R220, R222,
R11): its frame is in TXS, the result is (Ok, 0), SETTLE has passed since the stamp, and RXQ, LASTTEMP and RESP were
not touched by the block. The number of steps is the model's cut (log 1); that no response is read is the spec's own
decision (D21). -/
def Obligations.SetOperationCompletes : Prop :=
  ∀ (i : Instr) (f : Frame) (s : State) (w : HCWord) (rest : List HostLine) (a : BitVec 32) (e : Bool) (r : BitVec 31) (v : Int),
    i = .setabc e r ∨ i = .setbg a ∨ (i = .setspan v ∧ 1000 ≤ v ∧ v ≤ 5000) → frameOf i = some f →
    s.ph = .idle → s.host = .issue w :: rest → decode (.hc w) = .ok i → (∀ w' l, rest ≠ .force w' :: l) →
    s.cfg.ser = true → readiness s = .ready →
    ∃ t : State, Host.Core.run core 5 s = .next t ∧ t.ph = .idle ∧ t.op = none ∧ t.host = rest ∧
      t.txs = s.txs ++ f.toList ∧ t.results = s.results ++ [⟨.ok, 0⟩] ∧ s.now ≤ t.lastreq ∧ t.lastreq + 100 ≤ t.now ∧
      t.lasttemp = s.lasttemp ∧ t.resp = s.resp ∧ ∃ bytes, t.rxq = s.rxq ++ bytes

/-- R151(a): any number of stray bytes other than 0xFF before a complete frame with a correct checksum are removed,
and the frame is accepted, whatever the environment appends behind it: the result is its ppm and LASTTEMP its
temperature. The spec marks R151 as derived; the number of steps is the model's cut (log 1). -/
def Obligations.StrayBytesAreDiscardedAndFrameDecoded : Prop :=
  ∀ (a : BitVec 32) (s : State) (strays more : List Byte) (f : Frame),
    running (.rduart a) .resync s → s.rxq = strays ++ f.toList ++ more → (∀ b ∈ strays, b ≠ 0xFF) →
    f.b0 = 0xFF → f.b8 = checksum f → hostDutiful s = true →
    ∃ t : State, Host.Core.run core (strays.length + 5) s = .next t ∧ t.ph = .idle ∧ t.op = none ∧ t.resp = f ∧
      t.results = s.results ++ [⟨.ok, BitVec.ofInt 32 (256 * (f.b2.toNat : Int) + f.b3.toNat)⟩] ∧
      t.lasttemp = (f.b4.toNat : Int) - 40 ∧ t.txs = s.txs ∧ t.lastreq = s.lastreq

/-- R142 with R141: if no byte arrives during ten sleeps the wait ends in NoResponse after one flush; LASTTEMP and
RESP are unchanged, a byte that arrives after the last sample is flushed, and at least ten POLL_STEPs have passed. The
reading of the ten cycles is the spec's own decision (D10); the number of steps is the model's cut (log 1). -/
def Obligations.NoResponseAfterTenSleeps : Prop :=
  ∀ (a : BitVec 32) (s : State) (acts : List EnvAct) (last flushed : EnvAct) (rest : List EnvAct),
    running (.rduart a) .wait s → s.k = 0 → s.rxq = [] → hostDutiful s = true →
    s.env = acts ++ last :: flushed :: rest → acts.length = 10 → (∀ x ∈ acts, x.arrive = [] ∧ x.rx = []) →
    ∃ t : State, Host.Core.run core 12 s = .next t ∧ t.ph = .idle ∧ t.op = none ∧
      t.results = s.results ++ [⟨.noResponse, 0⟩] ∧ t.lasttemp = s.lasttemp ∧ t.resp = s.resp ∧ t.txs = s.txs ∧
      t.rxq = flushed.rx ∧ s.now + 10 * s.params.pollStep ≤ t.now

/-- R148: a checksum mismatch overwrites the cached temperature with STATUS_CODE(ChecksumMismatch), by default -3,
flushes once and raises ChecksumMismatch with no ppm value; no other failure changes LASTTEMP: a step that changes it
is this one, or the extraction of RDUART. The number of steps is the model's cut (log 1); the environment as a script
of acts is the model's (log 2). -/
def Obligations.MismatchInvalidatesTheCache : Prop :=
  (∀ (a : BitVec 32) (s : State) (x y : EnvAct) (rest : List EnvAct),
    running (.rduart a) .check s → s.resp.b8 ≠ checksum s.resp → hostDutiful s = true → s.env = x :: y :: rest →
    ∃ t : State, Host.Core.run core 2 s = .next t ∧ t.ph = .idle ∧ t.op = none ∧
      t.lasttemp = s.params.codes.checksumMismatch ∧ t.results = s.results ++ [⟨.checksumMismatch, 0⟩] ∧
      t.rxq = y.rx ∧ t.lastreq = s.lastreq ∧ t.txs = s.txs ∧ t.resp = s.resp) ∧
  Config.defaultCodes.checksumMismatch = -3 ∧
  (∀ s t : State, step s = .next t → t.lasttemp ≠ s.lasttemp →
    (s.ph = .check ∧ s.resp.b8 ≠ checksum s.resp) ∨ s.ph = .extract)

/-- R195: while every `Pulse` answers 0, RDPWM never returns: after any number of steps it is still measuring and has
delivered nothing. The environment as a script of acts is the model's (log 2). -/
def Obligations.RdpwmDivergesOnZeroPulses : Prop :=
  ∀ (n : Nat) (a : BitVec 32) (s : State),
    running (.rdpwm a) .measure s → hostDutiful s = true → n ≤ s.env.length →
    (∀ x ∈ s.env.take n, x.pulseHigh = 0 ∧ x.pulseLow = 0) →
    ∃ t : State, Host.Core.run core n s = .next t ∧ running (.rdpwm a) .measure t ∧ t.results = s.results ∧ t.txs = s.txs

/-- R152: an environment that appends one byte other than 0xFF for each one the scan discards keeps the scan running.
The environment as a script of acts is the model's (log 2). -/
def Obligations.ScanDivergesWhileFed : Prop :=
  ∀ (n : Nat) (a : BitVec 32) (s : State),
    running (.rduart a) .resync s → hostDutiful s = true → s.rxq ≠ [] → (∀ b ∈ s.rxq, b ≠ 0xFF) → n ≤ s.env.length →
    (∀ x ∈ s.env.take n, ∃ b, x.rx = [b] ∧ b ≠ 0xFF) →
    ∃ t : State, Host.Core.run core n s = .next t ∧ running (.rduart a) .resync t ∧ t.results = s.results ∧
      t.rxq.length = s.rxq.length

end
end

