-- ==== Sys2Proof/Laws/Codec.lean ====
section
/-! SUPPORT. The fields of a command word and of a frame, said once: what an append of bits holds, what CHECKSUM is as a
number, and which instruction a frame in CMD decodes to. -/

namespace Sys2Proof

/-! ### Bits -/

theorem toNat_append_eq (m n : Nat) (x : BitVec m) (y : BitVec n) : (x ++ y).toNat = x.toNat * 2 ^ n + y.toNat := by
  rw [BitVec.toNat_append, ← Nat.shiftLeft_add_eq_or_of_lt y.isLt, Nat.shiftLeft_eq]

theorem extractLsb'_low (m n : Nat) (x : BitVec m) (y : BitVec n) : (x ++ y).extractLsb' 0 n = y := by
  apply BitVec.eq_of_toNat_eq
  rw [BitVec.extractLsb'_toNat, toNat_append_eq, Nat.shiftRight_zero, Nat.add_comm, Nat.add_mul_mod_self_right,
    Nat.mod_eq_of_lt y.isLt]

theorem extractLsb'_high (m n : Nat) (x : BitVec m) (y : BitVec n) : (x ++ y).extractLsb' n m = x := by
  apply BitVec.eq_of_toNat_eq
  rw [BitVec.extractLsb'_toNat, toNat_append_eq, Nat.shiftRight_eq_div_pow, Nat.add_comm,
    Nat.add_mul_div_right _ _ (Nat.two_pow_pos n), Nat.div_eq_of_lt y.isLt, Nat.zero_add, Nat.mod_eq_of_lt x.isLt]

theorem append_extract (m n : Nat) (w : BitVec (m + n)) : w.extractLsb' n m ++ w.extractLsb' 0 n = w := by
  apply BitVec.eq_of_toNat_eq
  rw [toNat_append_eq, BitVec.extractLsb'_toNat, BitVec.extractLsb'_toNat, Nat.shiftRight_zero, Nat.shiftRight_eq_div_pow,
    Nat.mod_eq_of_lt (Nat.div_lt_of_lt_mul (by rw [Nat.mul_comm, ← Nat.pow_add]; exact w.isLt)), Nat.mul_comm,
    Nat.div_add_mod]

/-! ### Command words -/

theorem hcWord_arg (sel : BitVec 4) (arg : BitVec 32) : (hcWord sel arg).extractLsb' 0 32 = arg :=
  extractLsb'_low 4 32 sel arg

theorem hcWord_sel (sel : BitVec 4) (arg : BitVec 32) : (hcWord sel arg).extractLsb' 32 4 = sel :=
  extractLsb'_high 4 32 sel arg

theorem hcWord_fields (w : HCWord) : hcWord (w.extractLsb' 32 4) (w.extractLsb' 0 32) = w :=
  append_extract 4 32 w

theorem abcArg_enable (e : Bool) (r : BitVec 31) : (r ++ BitVec.ofBool e : BitVec 32).getLsbD 0 = e := by
  rw [BitVec.getLsbD_append]
  cases e <;> rfl

theorem abcArg_rest (e : Bool) (r : BitVec 31) : (r ++ BitVec.ofBool e : BitVec 32).extractLsb' 1 31 = r :=
  extractLsb'_high 31 1 r (BitVec.ofBool e)

theorem abcArg_fields (a : BitVec 32) : (a.extractLsb' 1 31 ++ BitVec.ofBool (a.getLsbD 0) : BitVec 32) = a := by
  have h := append_extract 31 1 a
  have hb : BitVec.ofBool (a.getLsbD 0) = a.extractLsb' 0 1 := by
    apply BitVec.eq_of_getLsbD_eq
    intro i hi
    have : i = 0 := by omega
    subst this
    simp
  rw [hb]
  exact h

theorem toInt_ofInt_32 (v : Int) (h1 : -2147483648 ≤ v) (h2 : v < 2147483648) : (BitVec.ofInt 32 v).toInt = v := by
  rw [BitVec.toInt_ofInt]
  simp only [Int.bmod]
  omega

/-! ### CHECKSUM -/

theorem checksum_toNat (f : Frame) : (checksum f).toNat = (256 - f.bodySum % 256) % 256 := by
  simp only [checksum, BitVec.toNat_ofNat]
  have := Nat.mod_lt f.bodySum (show 0 < 256 by decide)
  omega

theorem accepted_iff (r : Frame) : r.accepted = true ↔ r.b8 = checksum r := by
  simp [Frame.accepted]

/-! ### Frames in CMD -/

theorem frameSpan_b3 (n : Nat) (h : n ≤ 5000) : (frameSpan n).b3.toNat = n / 256 := by
  show n / 256 % 256 = n / 256
  omega

theorem frameSpan_b4 (n : Nat) : (frameSpan n).b4.toNat = n % 256 := by
  show n % 256 % 256 = n % 256
  omega

theorem frameSpan_spanValue (n : Nat) (h : n ≤ 5000) : (frameSpan n).spanValue = n := by
  rw [Frame.spanValue, frameSpan_b3 n h, frameSpan_b4 n]
  omega

theorem spanAccepted_natCast (n : Nat) : spanAccepted (n : Int) = true ↔ 1000 ≤ n ∧ n ≤ 5000 := by
  have h : spanAccepted (n : Int) = true ↔ (1000 : Int) ≤ n ∧ (n : Int) ≤ 5000 := by
    simp only [spanAccepted, Bool.and_eq_true, decide_eq_true_eq]
    exact Iff.rfl
  rw [h]
  omega

/-- Whatever a frame in CMD decodes to is one of the five rows of format CF, and the frame is the row's. -/
theorem decodeCF_cases (f : Frame) (i : Instr) (h : decodeCF f = .ok i) :
    (i = .cmdRead ∧ f = frameRead) ∨ (i = .cmdAbcOn ∧ f = frameAbc true) ∨ (i = .cmdAbcOff ∧ f = frameAbc false) ∨
    (i = .cmdBg ∧ f = frameBg) ∨ ∃ n : Nat, i = .cmdSpan n ∧ f = frameSpan n ∧ 1000 ≤ n ∧ n ≤ 5000 := by
  unfold decodeCF at h
  repeat' split at h
  all_goals cases h
  · next hf => exact .inl ⟨rfl, hf⟩
  · next hf => exact .inr (.inl ⟨rfl, hf⟩)
  · next hf => exact .inr (.inr (.inl ⟨rfl, hf⟩))
  · next hf => exact .inr (.inr (.inr (.inl ⟨rfl, hf⟩)))
  · next hf =>
    simp only [Bool.and_eq_true, decide_eq_true_eq, spanAccepted_natCast] at hf
    exact .inr (.inr (.inr (.inr ⟨_, rfl, hf.2, hf.1⟩)))

theorem decodeCF_frameSpan (n : Nat) (h1 : 1000 ≤ n) (h2 : n ≤ 5000) : decodeCF (frameSpan n) = .ok (.cmdSpan n) := by
  have ne : ∀ g : Frame, g.b2 ≠ 0x88 → frameSpan n ≠ g := by
    rintro g hg rfl
    exact hg rfl
  have ha : spanAccepted (n : Int) = true := (spanAccepted_natCast n).2 ⟨h1, h2⟩
  unfold decodeCF
  rw [if_neg (ne _ (by decide)), if_neg (ne _ (by decide)), if_neg (ne _ (by decide)), if_neg (ne _ (by decide)), if_pos] <;>
    rw [frameSpan_spanValue n h2]
  rw [ha]
  simp

/-! ### The lengths and the bytes of a frame -/

@[simp] theorem length_toList (f : Frame) : f.toList.length = 9 := rfl

theorem toList_overwrite (f : Frame) (bytes : List Byte) (h : bytes.length ≤ 9) :
    (f.overwrite bytes).toList = bytes ++ f.toList.drop bytes.length := by
  match bytes, h with
  | [], _ => rfl
  | [_], _ => rfl
  | [_, _], _ => rfl
  | [_, _, _], _ => rfl
  | [_, _, _, _], _ => rfl
  | [_, _, _, _, _], _ => rfl
  | [_, _, _, _, _, _], _ => rfl
  | [_, _, _, _, _, _, _], _ => rfl
  | [_, _, _, _, _, _, _, _], _ => rfl
  | [_, _, _, _, _, _, _, _, _], _ => rfl
  | _ :: _ :: _ :: _ :: _ :: _ :: _ :: _ :: _ :: _ :: _, h => exact absurd h (by simp)

theorem overwrite_toList (f g : Frame) : f.overwrite g.toList = g := rfl

end Sys2Proof
end

