-- ==== Sys2Proof/Laws/State.lean ====
section
/-! SUPPORT. The fields of a state after each named update: one lemma a field and update, so that no later proof unfolds
a record update. -/

namespace Sys2Proof.Machine

/-! ### environment -/

@[simp] theorem environment_variant (s : State) : (environment s).variant = s.variant := rfl
@[simp] theorem environment_cfg (s : State) : (environment s).cfg = s.cfg := rfl
@[simp] theorem environment_now (s : State) : (environment s).now = s.now + s.act.dt := rfl
@[simp] theorem environment_lastreq (s : State) : (environment s).lastreq = s.lastreq := rfl
@[simp] theorem environment_lasttemp (s : State) : (environment s).lasttemp = s.lasttemp := rfl
@[simp] theorem environment_cmd (s : State) : (environment s).cmd = s.cmd := rfl
@[simp] theorem environment_resp (s : State) : (environment s).resp = s.resp := rfl
@[simp] theorem environment_k (s : State) : (environment s).k = s.k := rfl
@[simp] theorem environment_th (s : State) : (environment s).th = s.th := rfl
@[simp] theorem environment_ph (s : State) : (environment s).ph = s.ph := rfl
@[simp] theorem environment_rxq (s : State) : (environment s).rxq = s.rxq ++ s.act.rx := rfl
@[simp] theorem environment_txs (s : State) : (environment s).txs = s.txs := rfl
@[simp] theorem environment_params (s : State) : (environment s).params = s.params := rfl
@[simp] theorem environment_results (s : State) : (environment s).results = s.results := rfl
@[simp] theorem environment_op (s : State) : (environment s).op = s.op := rfl
@[simp] theorem environment_pend (s : State) : (environment s).pend = s.pend := rfl
@[simp] theorem environment_host (s : State) : (environment s).host = s.host := rfl
@[simp] theorem environment_env (s : State) : (environment s).env = s.env.tail := rfl
@[simp] theorem environment_draws (s : State) : (environment s).draws = s.draws + 1 := rfl

/-! ### during -/

@[simp] theorem during_variant (d : Nat) (s : State) : (during d s).variant = s.variant := rfl
@[simp] theorem during_cfg (d : Nat) (s : State) : (during d s).cfg = s.cfg := rfl
@[simp] theorem during_now (d : Nat) (s : State) : (during d s).now = s.now + d := rfl
@[simp] theorem during_lastreq (d : Nat) (s : State) : (during d s).lastreq = s.lastreq := rfl
@[simp] theorem during_lasttemp (d : Nat) (s : State) : (during d s).lasttemp = s.lasttemp := rfl
@[simp] theorem during_cmd (d : Nat) (s : State) : (during d s).cmd = s.cmd := rfl
@[simp] theorem during_resp (d : Nat) (s : State) : (during d s).resp = s.resp := rfl
@[simp] theorem during_k (d : Nat) (s : State) : (during d s).k = s.k := rfl
@[simp] theorem during_th (d : Nat) (s : State) : (during d s).th = s.th := rfl
@[simp] theorem during_ph (d : Nat) (s : State) : (during d s).ph = s.ph := rfl
@[simp] theorem during_rxq (d : Nat) (s : State) : (during d s).rxq = s.rxq ++ s.act.arrive := rfl
@[simp] theorem during_txs (d : Nat) (s : State) : (during d s).txs = s.txs := rfl
@[simp] theorem during_params (d : Nat) (s : State) : (during d s).params = s.params := rfl
@[simp] theorem during_results (d : Nat) (s : State) : (during d s).results = s.results := rfl
@[simp] theorem during_op (d : Nat) (s : State) : (during d s).op = s.op := rfl
@[simp] theorem during_pend (d : Nat) (s : State) : (during d s).pend = s.pend := rfl
@[simp] theorem during_host (d : Nat) (s : State) : (during d s).host = s.host := rfl
@[simp] theorem during_env (d : Nat) (s : State) : (during d s).env = s.env := rfl
@[simp] theorem during_draws (d : Nat) (s : State) : (during d s).draws = s.draws := rfl

/-! ### sleep -/

@[simp] theorem sleep_variant (d : Nat) (s : State) : (sleep d s).variant = s.variant := rfl
@[simp] theorem sleep_cfg (d : Nat) (s : State) : (sleep d s).cfg = s.cfg := rfl
@[simp] theorem sleep_now (d : Nat) (s : State) : (sleep d s).now = s.now + (d + s.act.delay) := rfl
@[simp] theorem sleep_lastreq (d : Nat) (s : State) : (sleep d s).lastreq = s.lastreq := rfl
@[simp] theorem sleep_lasttemp (d : Nat) (s : State) : (sleep d s).lasttemp = s.lasttemp := rfl
@[simp] theorem sleep_cmd (d : Nat) (s : State) : (sleep d s).cmd = s.cmd := rfl
@[simp] theorem sleep_resp (d : Nat) (s : State) : (sleep d s).resp = s.resp := rfl
@[simp] theorem sleep_k (d : Nat) (s : State) : (sleep d s).k = s.k := rfl
@[simp] theorem sleep_th (d : Nat) (s : State) : (sleep d s).th = s.th := rfl
@[simp] theorem sleep_ph (d : Nat) (s : State) : (sleep d s).ph = s.ph := rfl
@[simp] theorem sleep_rxq (d : Nat) (s : State) : (sleep d s).rxq = s.rxq ++ s.act.arrive := rfl
@[simp] theorem sleep_txs (d : Nat) (s : State) : (sleep d s).txs = s.txs := rfl
@[simp] theorem sleep_params (d : Nat) (s : State) : (sleep d s).params = s.params := rfl
@[simp] theorem sleep_results (d : Nat) (s : State) : (sleep d s).results = s.results := rfl
@[simp] theorem sleep_op (d : Nat) (s : State) : (sleep d s).op = s.op := rfl
@[simp] theorem sleep_pend (d : Nat) (s : State) : (sleep d s).pend = s.pend := rfl
@[simp] theorem sleep_host (d : Nat) (s : State) : (sleep d s).host = s.host := rfl
@[simp] theorem sleep_env (d : Nat) (s : State) : (sleep d s).env = s.env := rfl
@[simp] theorem sleep_draws (d : Nat) (s : State) : (sleep d s).draws = s.draws := rfl

/-! ### txWrite -/

@[simp] theorem txWrite_variant (bytes : List Byte) (s : State) : (txWrite bytes s).variant = s.variant := rfl
@[simp] theorem txWrite_cfg (bytes : List Byte) (s : State) : (txWrite bytes s).cfg = s.cfg := rfl
@[simp] theorem txWrite_now (bytes : List Byte) (s : State) : (txWrite bytes s).now = s.now := rfl
@[simp] theorem txWrite_lastreq (bytes : List Byte) (s : State) : (txWrite bytes s).lastreq = s.lastreq := rfl
@[simp] theorem txWrite_lasttemp (bytes : List Byte) (s : State) : (txWrite bytes s).lasttemp = s.lasttemp := rfl
@[simp] theorem txWrite_cmd (bytes : List Byte) (s : State) : (txWrite bytes s).cmd = s.cmd := rfl
@[simp] theorem txWrite_resp (bytes : List Byte) (s : State) : (txWrite bytes s).resp = s.resp := rfl
@[simp] theorem txWrite_k (bytes : List Byte) (s : State) : (txWrite bytes s).k = s.k := rfl
@[simp] theorem txWrite_th (bytes : List Byte) (s : State) : (txWrite bytes s).th = s.th := rfl
@[simp] theorem txWrite_ph (bytes : List Byte) (s : State) : (txWrite bytes s).ph = s.ph := rfl
@[simp] theorem txWrite_rxq (bytes : List Byte) (s : State) : (txWrite bytes s).rxq = s.rxq := rfl
@[simp] theorem txWrite_txs (bytes : List Byte) (s : State) : (txWrite bytes s).txs = s.txs ++ bytes := rfl
@[simp] theorem txWrite_params (bytes : List Byte) (s : State) : (txWrite bytes s).params = s.params := rfl
@[simp] theorem txWrite_results (bytes : List Byte) (s : State) : (txWrite bytes s).results = s.results := rfl
@[simp] theorem txWrite_op (bytes : List Byte) (s : State) : (txWrite bytes s).op = s.op := rfl
@[simp] theorem txWrite_pend (bytes : List Byte) (s : State) : (txWrite bytes s).pend = s.pend := rfl
@[simp] theorem txWrite_host (bytes : List Byte) (s : State) : (txWrite bytes s).host = s.host := rfl
@[simp] theorem txWrite_env (bytes : List Byte) (s : State) : (txWrite bytes s).env = s.env := rfl
@[simp] theorem txWrite_draws (bytes : List Byte) (s : State) : (txWrite bytes s).draws = s.draws := rfl

/-! ### rxFlush -/

@[simp] theorem rxFlush_variant (s : State) : (rxFlush s).variant = s.variant := rfl
@[simp] theorem rxFlush_cfg (s : State) : (rxFlush s).cfg = s.cfg := rfl
@[simp] theorem rxFlush_now (s : State) : (rxFlush s).now = s.now := rfl
@[simp] theorem rxFlush_lastreq (s : State) : (rxFlush s).lastreq = s.lastreq := rfl
@[simp] theorem rxFlush_lasttemp (s : State) : (rxFlush s).lasttemp = s.lasttemp := rfl
@[simp] theorem rxFlush_cmd (s : State) : (rxFlush s).cmd = s.cmd := rfl
@[simp] theorem rxFlush_resp (s : State) : (rxFlush s).resp = s.resp := rfl
@[simp] theorem rxFlush_k (s : State) : (rxFlush s).k = s.k := rfl
@[simp] theorem rxFlush_th (s : State) : (rxFlush s).th = s.th := rfl
@[simp] theorem rxFlush_ph (s : State) : (rxFlush s).ph = s.ph := rfl
@[simp] theorem rxFlush_rxq (s : State) : (rxFlush s).rxq = [] := rfl
@[simp] theorem rxFlush_txs (s : State) : (rxFlush s).txs = s.txs := rfl
@[simp] theorem rxFlush_params (s : State) : (rxFlush s).params = s.params := rfl
@[simp] theorem rxFlush_results (s : State) : (rxFlush s).results = s.results := rfl
@[simp] theorem rxFlush_op (s : State) : (rxFlush s).op = s.op := rfl
@[simp] theorem rxFlush_pend (s : State) : (rxFlush s).pend = s.pend := rfl
@[simp] theorem rxFlush_host (s : State) : (rxFlush s).host = s.host := rfl
@[simp] theorem rxFlush_env (s : State) : (rxFlush s).env = s.env := rfl
@[simp] theorem rxFlush_draws (s : State) : (rxFlush s).draws = s.draws := rfl

/-! ### deliver -/

@[simp] theorem deliver_variant (r : ResultWord) (s : State) : (deliver r s).variant = s.variant := rfl
@[simp] theorem deliver_cfg (r : ResultWord) (s : State) : (deliver r s).cfg = s.cfg := rfl
@[simp] theorem deliver_now (r : ResultWord) (s : State) : (deliver r s).now = s.now := rfl
@[simp] theorem deliver_lastreq (r : ResultWord) (s : State) : (deliver r s).lastreq = s.lastreq := rfl
@[simp] theorem deliver_lasttemp (r : ResultWord) (s : State) : (deliver r s).lasttemp = s.lasttemp := rfl
@[simp] theorem deliver_cmd (r : ResultWord) (s : State) : (deliver r s).cmd = s.cmd := rfl
@[simp] theorem deliver_resp (r : ResultWord) (s : State) : (deliver r s).resp = s.resp := rfl
@[simp] theorem deliver_k (r : ResultWord) (s : State) : (deliver r s).k = s.k := rfl
@[simp] theorem deliver_th (r : ResultWord) (s : State) : (deliver r s).th = s.th := rfl
@[simp] theorem deliver_ph (r : ResultWord) (s : State) : (deliver r s).ph = .idle := rfl
@[simp] theorem deliver_rxq (r : ResultWord) (s : State) : (deliver r s).rxq = s.rxq := rfl
@[simp] theorem deliver_txs (r : ResultWord) (s : State) : (deliver r s).txs = s.txs := rfl
@[simp] theorem deliver_params (r : ResultWord) (s : State) : (deliver r s).params = s.params := rfl
@[simp] theorem deliver_results (r : ResultWord) (s : State) : (deliver r s).results = s.results ++ [r] := rfl
@[simp] theorem deliver_op (r : ResultWord) (s : State) : (deliver r s).op = none := rfl
@[simp] theorem deliver_pend (r : ResultWord) (s : State) : (deliver r s).pend = s.pend := rfl
@[simp] theorem deliver_host (r : ResultWord) (s : State) : (deliver r s).host = s.host := rfl
@[simp] theorem deliver_env (r : ResultWord) (s : State) : (deliver r s).env = s.env := rfl
@[simp] theorem deliver_draws (r : ResultWord) (s : State) : (deliver r s).draws = s.draws := rfl

/-! ### raise -/

@[simp] theorem raise_variant (st : Status) (s : State) : (raise st s).variant = s.variant := rfl
@[simp] theorem raise_cfg (st : Status) (s : State) : (raise st s).cfg = s.cfg := rfl
@[simp] theorem raise_now (st : Status) (s : State) : (raise st s).now = s.now := rfl
@[simp] theorem raise_lastreq (st : Status) (s : State) : (raise st s).lastreq = s.lastreq := rfl
@[simp] theorem raise_lasttemp (st : Status) (s : State) : (raise st s).lasttemp = s.lasttemp := rfl
@[simp] theorem raise_cmd (st : Status) (s : State) : (raise st s).cmd = s.cmd := rfl
@[simp] theorem raise_resp (st : Status) (s : State) : (raise st s).resp = s.resp := rfl
@[simp] theorem raise_k (st : Status) (s : State) : (raise st s).k = s.k := rfl
@[simp] theorem raise_th (st : Status) (s : State) : (raise st s).th = s.th := rfl
@[simp] theorem raise_ph (st : Status) (s : State) : (raise st s).ph = .idle := rfl
@[simp] theorem raise_rxq (st : Status) (s : State) : (raise st s).rxq = s.rxq := rfl
@[simp] theorem raise_txs (st : Status) (s : State) : (raise st s).txs = s.txs := rfl
@[simp] theorem raise_params (st : Status) (s : State) : (raise st s).params = s.params := rfl
@[simp] theorem raise_results (st : Status) (s : State) : (raise st s).results = s.results ++ [⟨st, 0⟩] := rfl
@[simp] theorem raise_op (st : Status) (s : State) : (raise st s).op = none := rfl
@[simp] theorem raise_pend (st : Status) (s : State) : (raise st s).pend = s.pend := rfl
@[simp] theorem raise_host (st : Status) (s : State) : (raise st s).host = s.host := rfl
@[simp] theorem raise_env (st : Status) (s : State) : (raise st s).env = s.env := rfl
@[simp] theorem raise_draws (st : Status) (s : State) : (raise st s).draws = s.draws := rfl

/-! ### returnOk -/

@[simp] theorem returnOk_variant (v : Int) (s : State) : (returnOk v s).variant = s.variant := rfl
@[simp] theorem returnOk_cfg (v : Int) (s : State) : (returnOk v s).cfg = s.cfg := rfl
@[simp] theorem returnOk_now (v : Int) (s : State) : (returnOk v s).now = s.now := rfl
@[simp] theorem returnOk_lastreq (v : Int) (s : State) : (returnOk v s).lastreq = s.lastreq := rfl
@[simp] theorem returnOk_lasttemp (v : Int) (s : State) : (returnOk v s).lasttemp = s.lasttemp := rfl
@[simp] theorem returnOk_cmd (v : Int) (s : State) : (returnOk v s).cmd = s.cmd := rfl
@[simp] theorem returnOk_resp (v : Int) (s : State) : (returnOk v s).resp = s.resp := rfl
@[simp] theorem returnOk_k (v : Int) (s : State) : (returnOk v s).k = s.k := rfl
@[simp] theorem returnOk_th (v : Int) (s : State) : (returnOk v s).th = s.th := rfl
@[simp] theorem returnOk_ph (v : Int) (s : State) : (returnOk v s).ph = .idle := rfl
@[simp] theorem returnOk_rxq (v : Int) (s : State) : (returnOk v s).rxq = s.rxq := rfl
@[simp] theorem returnOk_txs (v : Int) (s : State) : (returnOk v s).txs = s.txs := rfl
@[simp] theorem returnOk_params (v : Int) (s : State) : (returnOk v s).params = s.params := rfl
@[simp] theorem returnOk_results (v : Int) (s : State) : (returnOk v s).results = s.results ++ [⟨.ok, portVal v⟩] := rfl
@[simp] theorem returnOk_op (v : Int) (s : State) : (returnOk v s).op = none := rfl
@[simp] theorem returnOk_pend (v : Int) (s : State) : (returnOk v s).pend = s.pend := rfl
@[simp] theorem returnOk_host (v : Int) (s : State) : (returnOk v s).host = s.host := rfl
@[simp] theorem returnOk_env (v : Int) (s : State) : (returnOk v s).env = s.env := rfl
@[simp] theorem returnOk_draws (v : Int) (s : State) : (returnOk v s).draws = s.draws := rfl

/-! ### returnVoid -/

@[simp] theorem returnVoid_variant (s : State) : (returnVoid s).variant = s.variant := rfl
@[simp] theorem returnVoid_cfg (s : State) : (returnVoid s).cfg = s.cfg := rfl
@[simp] theorem returnVoid_now (s : State) : (returnVoid s).now = s.now := rfl
@[simp] theorem returnVoid_lastreq (s : State) : (returnVoid s).lastreq = s.lastreq := rfl
@[simp] theorem returnVoid_lasttemp (s : State) : (returnVoid s).lasttemp = s.lasttemp := rfl
@[simp] theorem returnVoid_cmd (s : State) : (returnVoid s).cmd = s.cmd := rfl
@[simp] theorem returnVoid_resp (s : State) : (returnVoid s).resp = s.resp := rfl
@[simp] theorem returnVoid_k (s : State) : (returnVoid s).k = s.k := rfl
@[simp] theorem returnVoid_th (s : State) : (returnVoid s).th = s.th := rfl
@[simp] theorem returnVoid_ph (s : State) : (returnVoid s).ph = .idle := rfl
@[simp] theorem returnVoid_rxq (s : State) : (returnVoid s).rxq = s.rxq := rfl
@[simp] theorem returnVoid_txs (s : State) : (returnVoid s).txs = s.txs := rfl
@[simp] theorem returnVoid_params (s : State) : (returnVoid s).params = s.params := rfl
@[simp] theorem returnVoid_results (s : State) : (returnVoid s).results = s.results ++ [⟨.ok, 0⟩] := rfl
@[simp] theorem returnVoid_op (s : State) : (returnVoid s).op = none := rfl
@[simp] theorem returnVoid_pend (s : State) : (returnVoid s).pend = s.pend := rfl
@[simp] theorem returnVoid_host (s : State) : (returnVoid s).host = s.host := rfl
@[simp] theorem returnVoid_env (s : State) : (returnVoid s).env = s.env := rfl
@[simp] theorem returnVoid_draws (s : State) : (returnVoid s).draws = s.draws := rfl

/-! ### goto -/

@[simp] theorem goto_variant (p : Phase) (s : State) : (goto p s).variant = s.variant := rfl
@[simp] theorem goto_cfg (p : Phase) (s : State) : (goto p s).cfg = s.cfg := rfl
@[simp] theorem goto_now (p : Phase) (s : State) : (goto p s).now = s.now := rfl
@[simp] theorem goto_lastreq (p : Phase) (s : State) : (goto p s).lastreq = s.lastreq := rfl
@[simp] theorem goto_lasttemp (p : Phase) (s : State) : (goto p s).lasttemp = s.lasttemp := rfl
@[simp] theorem goto_cmd (p : Phase) (s : State) : (goto p s).cmd = s.cmd := rfl
@[simp] theorem goto_resp (p : Phase) (s : State) : (goto p s).resp = s.resp := rfl
@[simp] theorem goto_k (p : Phase) (s : State) : (goto p s).k = s.k := rfl
@[simp] theorem goto_th (p : Phase) (s : State) : (goto p s).th = s.th := rfl
@[simp] theorem goto_ph (p : Phase) (s : State) : (goto p s).ph = p := rfl
@[simp] theorem goto_rxq (p : Phase) (s : State) : (goto p s).rxq = s.rxq := rfl
@[simp] theorem goto_txs (p : Phase) (s : State) : (goto p s).txs = s.txs := rfl
@[simp] theorem goto_params (p : Phase) (s : State) : (goto p s).params = s.params := rfl
@[simp] theorem goto_results (p : Phase) (s : State) : (goto p s).results = s.results := rfl
@[simp] theorem goto_op (p : Phase) (s : State) : (goto p s).op = s.op := rfl
@[simp] theorem goto_pend (p : Phase) (s : State) : (goto p s).pend = s.pend := rfl
@[simp] theorem goto_host (p : Phase) (s : State) : (goto p s).host = s.host := rfl
@[simp] theorem goto_env (p : Phase) (s : State) : (goto p s).env = s.env := rfl
@[simp] theorem goto_draws (p : Phase) (s : State) : (goto p s).draws = s.draws := rfl

/-! ### accept -/

@[simp] theorem accept_variant (i : Instr) (s : State) : (accept i s).variant = s.variant := rfl
@[simp] theorem accept_cfg (i : Instr) (s : State) : (accept i s).cfg = s.cfg := rfl
@[simp] theorem accept_now (i : Instr) (s : State) : (accept i s).now = s.now := rfl
@[simp] theorem accept_lastreq (i : Instr) (s : State) : (accept i s).lastreq = s.lastreq := rfl
@[simp] theorem accept_lasttemp (i : Instr) (s : State) : (accept i s).lasttemp = s.lasttemp := rfl
@[simp] theorem accept_cmd (i : Instr) (s : State) : (accept i s).cmd = s.cmd := rfl
@[simp] theorem accept_resp (i : Instr) (s : State) : (accept i s).resp = s.resp := rfl
@[simp] theorem accept_k (i : Instr) (s : State) : (accept i s).k = s.k := rfl
@[simp] theorem accept_th (i : Instr) (s : State) : (accept i s).th = s.th := rfl
@[simp] theorem accept_ph (i : Instr) (s : State) : (accept i s).ph = .gate := rfl
@[simp] theorem accept_rxq (i : Instr) (s : State) : (accept i s).rxq = s.rxq := rfl
@[simp] theorem accept_txs (i : Instr) (s : State) : (accept i s).txs = s.txs := rfl
@[simp] theorem accept_params (i : Instr) (s : State) : (accept i s).params = s.params := rfl
@[simp] theorem accept_results (i : Instr) (s : State) : (accept i s).results = s.results := rfl
@[simp] theorem accept_op (i : Instr) (s : State) : (accept i s).op = some i := rfl
@[simp] theorem accept_pend (i : Instr) (s : State) : (accept i s).pend = s.pend := rfl
@[simp] theorem accept_host (i : Instr) (s : State) : (accept i s).host = s.host := rfl
@[simp] theorem accept_env (i : Instr) (s : State) : (accept i s).env = s.env := rfl
@[simp] theorem accept_draws (i : Instr) (s : State) : (accept i s).draws = s.draws := rfl

/-! ### buildCmd -/

@[simp] theorem buildCmd_variant (f : Frame) (s : State) : (buildCmd f s).variant = s.variant := rfl
@[simp] theorem buildCmd_cfg (f : Frame) (s : State) : (buildCmd f s).cfg = s.cfg := rfl
@[simp] theorem buildCmd_now (f : Frame) (s : State) : (buildCmd f s).now = s.now := rfl
@[simp] theorem buildCmd_lastreq (f : Frame) (s : State) : (buildCmd f s).lastreq = s.lastreq := rfl
@[simp] theorem buildCmd_lasttemp (f : Frame) (s : State) : (buildCmd f s).lasttemp = s.lasttemp := rfl
@[simp] theorem buildCmd_cmd (f : Frame) (s : State) : (buildCmd f s).cmd = f := rfl
@[simp] theorem buildCmd_resp (f : Frame) (s : State) : (buildCmd f s).resp = s.resp := rfl
@[simp] theorem buildCmd_k (f : Frame) (s : State) : (buildCmd f s).k = s.k := rfl
@[simp] theorem buildCmd_th (f : Frame) (s : State) : (buildCmd f s).th = s.th := rfl
@[simp] theorem buildCmd_ph (f : Frame) (s : State) : (buildCmd f s).ph = .send := rfl
@[simp] theorem buildCmd_rxq (f : Frame) (s : State) : (buildCmd f s).rxq = s.rxq := rfl
@[simp] theorem buildCmd_txs (f : Frame) (s : State) : (buildCmd f s).txs = s.txs := rfl
@[simp] theorem buildCmd_params (f : Frame) (s : State) : (buildCmd f s).params = s.params := rfl
@[simp] theorem buildCmd_results (f : Frame) (s : State) : (buildCmd f s).results = s.results := rfl
@[simp] theorem buildCmd_op (f : Frame) (s : State) : (buildCmd f s).op = s.op := rfl
@[simp] theorem buildCmd_pend (f : Frame) (s : State) : (buildCmd f s).pend = s.pend := rfl
@[simp] theorem buildCmd_host (f : Frame) (s : State) : (buildCmd f s).host = s.host := rfl
@[simp] theorem buildCmd_env (f : Frame) (s : State) : (buildCmd f s).env = s.env := rfl
@[simp] theorem buildCmd_draws (f : Frame) (s : State) : (buildCmd f s).draws = s.draws := rfl

/-! ### transmit -/

@[simp] theorem transmit_variant (f : Frame) (s : State) : (transmit f s).variant = s.variant := rfl
@[simp] theorem transmit_cfg (f : Frame) (s : State) : (transmit f s).cfg = s.cfg := rfl
@[simp] theorem transmit_now (f : Frame) (s : State) : (transmit f s).now = s.now + s.act.delay := rfl
@[simp] theorem transmit_lastreq (f : Frame) (s : State) : (transmit f s).lastreq = s.now + s.act.delay := rfl
@[simp] theorem transmit_lasttemp (f : Frame) (s : State) : (transmit f s).lasttemp = s.lasttemp := rfl
@[simp] theorem transmit_cmd (f : Frame) (s : State) : (transmit f s).cmd = s.cmd := rfl
@[simp] theorem transmit_resp (f : Frame) (s : State) : (transmit f s).resp = s.resp := rfl
@[simp] theorem transmit_k (f : Frame) (s : State) : (transmit f s).k = s.k := rfl
@[simp] theorem transmit_th (f : Frame) (s : State) : (transmit f s).th = s.th := rfl
@[simp] theorem transmit_ph (f : Frame) (s : State) : (transmit f s).ph = .settle := rfl
@[simp] theorem transmit_rxq (f : Frame) (s : State) : (transmit f s).rxq = s.rxq ++ s.act.arrive := rfl
@[simp] theorem transmit_txs (f : Frame) (s : State) : (transmit f s).txs = s.txs ++ f.toList := rfl
@[simp] theorem transmit_params (f : Frame) (s : State) : (transmit f s).params = s.params := rfl
@[simp] theorem transmit_results (f : Frame) (s : State) : (transmit f s).results = s.results := rfl
@[simp] theorem transmit_op (f : Frame) (s : State) : (transmit f s).op = s.op := rfl
@[simp] theorem transmit_pend (f : Frame) (s : State) : (transmit f s).pend = s.pend := rfl
@[simp] theorem transmit_host (f : Frame) (s : State) : (transmit f s).host = s.host := rfl
@[simp] theorem transmit_env (f : Frame) (s : State) : (transmit f s).env = s.env := rfl
@[simp] theorem transmit_draws (f : Frame) (s : State) : (transmit f s).draws = s.draws := rfl

/-! ### settleDelay -/

@[simp] theorem settleDelay_variant (s : State) : (settleDelay s).variant = s.variant := rfl
@[simp] theorem settleDelay_cfg (s : State) : (settleDelay s).cfg = s.cfg := rfl
@[simp] theorem settleDelay_now (s : State) : (settleDelay s).now = s.now + (Config.settle + s.act.delay) := rfl
@[simp] theorem settleDelay_lastreq (s : State) : (settleDelay s).lastreq = s.lastreq := rfl
@[simp] theorem settleDelay_lasttemp (s : State) : (settleDelay s).lasttemp = s.lasttemp := rfl
@[simp] theorem settleDelay_cmd (s : State) : (settleDelay s).cmd = s.cmd := rfl
@[simp] theorem settleDelay_resp (s : State) : (settleDelay s).resp = s.resp := rfl
@[simp] theorem settleDelay_k (s : State) : (settleDelay s).k = s.k := rfl
@[simp] theorem settleDelay_th (s : State) : (settleDelay s).th = s.th := rfl
@[simp] theorem settleDelay_ph (s : State) : (settleDelay s).ph = s.ph := rfl
@[simp] theorem settleDelay_rxq (s : State) : (settleDelay s).rxq = s.rxq ++ s.act.arrive := rfl
@[simp] theorem settleDelay_txs (s : State) : (settleDelay s).txs = s.txs := rfl
@[simp] theorem settleDelay_params (s : State) : (settleDelay s).params = s.params := rfl
@[simp] theorem settleDelay_results (s : State) : (settleDelay s).results = s.results := rfl
@[simp] theorem settleDelay_op (s : State) : (settleDelay s).op = s.op := rfl
@[simp] theorem settleDelay_pend (s : State) : (settleDelay s).pend = s.pend := rfl
@[simp] theorem settleDelay_host (s : State) : (settleDelay s).host = s.host := rfl
@[simp] theorem settleDelay_env (s : State) : (settleDelay s).env = s.env := rfl
@[simp] theorem settleDelay_draws (s : State) : (settleDelay s).draws = s.draws := rfl

/-! ### beginParse -/

@[simp] theorem beginParse_variant (s : State) : (beginParse s).variant = s.variant := rfl
@[simp] theorem beginParse_cfg (s : State) : (beginParse s).cfg = s.cfg := rfl
@[simp] theorem beginParse_now (s : State) : (beginParse s).now = s.now := rfl
@[simp] theorem beginParse_lastreq (s : State) : (beginParse s).lastreq = s.lastreq := rfl
@[simp] theorem beginParse_lasttemp (s : State) : (beginParse s).lasttemp = s.lasttemp := rfl
@[simp] theorem beginParse_cmd (s : State) : (beginParse s).cmd = s.cmd := rfl
@[simp] theorem beginParse_resp (s : State) : (beginParse s).resp = s.resp := rfl
@[simp] theorem beginParse_k (s : State) : (beginParse s).k = 0 := rfl
@[simp] theorem beginParse_th (s : State) : (beginParse s).th = s.th := rfl
@[simp] theorem beginParse_ph (s : State) : (beginParse s).ph = .wait := rfl
@[simp] theorem beginParse_rxq (s : State) : (beginParse s).rxq = s.rxq := rfl
@[simp] theorem beginParse_txs (s : State) : (beginParse s).txs = s.txs := rfl
@[simp] theorem beginParse_params (s : State) : (beginParse s).params = s.params := rfl
@[simp] theorem beginParse_results (s : State) : (beginParse s).results = s.results := rfl
@[simp] theorem beginParse_op (s : State) : (beginParse s).op = s.op := rfl
@[simp] theorem beginParse_pend (s : State) : (beginParse s).pend = s.pend := rfl
@[simp] theorem beginParse_host (s : State) : (beginParse s).host = s.host := rfl
@[simp] theorem beginParse_env (s : State) : (beginParse s).env = s.env := rfl
@[simp] theorem beginParse_draws (s : State) : (beginParse s).draws = s.draws := rfl

/-! ### toFlush -/

@[simp] theorem toFlush_variant (st : Status) (s : State) : (toFlush st s).variant = s.variant := rfl
@[simp] theorem toFlush_cfg (st : Status) (s : State) : (toFlush st s).cfg = s.cfg := rfl
@[simp] theorem toFlush_now (st : Status) (s : State) : (toFlush st s).now = s.now := rfl
@[simp] theorem toFlush_lastreq (st : Status) (s : State) : (toFlush st s).lastreq = s.lastreq := rfl
@[simp] theorem toFlush_lasttemp (st : Status) (s : State) : (toFlush st s).lasttemp = s.lasttemp := rfl
@[simp] theorem toFlush_cmd (st : Status) (s : State) : (toFlush st s).cmd = s.cmd := rfl
@[simp] theorem toFlush_resp (st : Status) (s : State) : (toFlush st s).resp = s.resp := rfl
@[simp] theorem toFlush_k (st : Status) (s : State) : (toFlush st s).k = s.k := rfl
@[simp] theorem toFlush_th (st : Status) (s : State) : (toFlush st s).th = s.th := rfl
@[simp] theorem toFlush_ph (st : Status) (s : State) : (toFlush st s).ph = .flush := rfl
@[simp] theorem toFlush_rxq (st : Status) (s : State) : (toFlush st s).rxq = s.rxq := rfl
@[simp] theorem toFlush_txs (st : Status) (s : State) : (toFlush st s).txs = s.txs := rfl
@[simp] theorem toFlush_params (st : Status) (s : State) : (toFlush st s).params = s.params := rfl
@[simp] theorem toFlush_results (st : Status) (s : State) : (toFlush st s).results = s.results := rfl
@[simp] theorem toFlush_op (st : Status) (s : State) : (toFlush st s).op = s.op := rfl
@[simp] theorem toFlush_pend (st : Status) (s : State) : (toFlush st s).pend = st := rfl
@[simp] theorem toFlush_host (st : Status) (s : State) : (toFlush st s).host = s.host := rfl
@[simp] theorem toFlush_env (st : Status) (s : State) : (toFlush st s).env = s.env := rfl
@[simp] theorem toFlush_draws (st : Status) (s : State) : (toFlush st s).draws = s.draws := rfl

/-! ### The act of the present step depends on the script and the counter only -/

@[simp] theorem act_during (d : Nat) (s : State) : (during d s).act = s.act := rfl
@[simp] theorem act_txWrite (bytes : List Byte) (s : State) : (txWrite bytes s).act = s.act := rfl
@[simp] theorem act_goto (p : Phase) (s : State) : (goto p s).act = s.act := rfl

theorem act_eq_of_script (s t : State) (he : t.env = s.env) (hd : t.draws = s.draws) : t.act = s.act := by
  simp [State.act, he, hd]

theorem act_of_cons (s : State) (a : EnvAct) (l : List EnvAct) (h : s.env = a :: l) : s.act = a := by
  simp [State.act, h]

end Sys2Proof.Machine
end

