-- ==== Sys2Proof/Laws/Ops.lean ====
section
/-! SUPPORT. What each shared operation can do, said once: an inversion lemma per operation that branches, and the bounds
of the draws. -/

namespace Sys2Proof.Machine

/-! ### The frame of a host operation -/

theorem hostOp_idle (i : Instr) (s : State) (line : Phase → Result) (h : s.ph = .idle) :
    hostOp i s line = .next (accept i s) := by
  simp [hostOp, h]

theorem hostOp_running (i : Instr) (s : State) (line : Phase → Result) (h : s.ph ≠ .idle) (ho : s.op = some i) :
    hostOp i s line = line s.ph := by
  unfold hostOp
  split
  · contradiction
  · simp [ho]

theorem hostOp_busy (i : Instr) (s : State) (line : Phase → Result) (h : s.ph ≠ .idle) (ho : s.op ≠ some i) :
    hostOp i s line = .refused .busy := by
  unfold hostOp
  split
  · contradiction
  · simp [ho]

theorem hostOp_next (i : Instr) (s t : State) (line : Phase → Result) (h : hostOp i s line = .next t) :
    (s.ph = .idle ∧ t = accept i s) ∨ (s.ph ≠ .idle ∧ s.op = some i ∧ line s.ph = .next t) := by
  by_cases hp : s.ph = .idle
  · rw [hostOp_idle i s line hp] at h
    exact .inl ⟨hp, by injection h with h; exact h.symm⟩
  · by_cases ho : s.op = some i
    · rw [hostOp_running i s line hp ho] at h
      exact .inr ⟨hp, ho, h⟩
    · rw [hostOp_busy i s line hp ho] at h
      contradiction

/-! ### The value on the result port -/

/-- The value on the port is the integer where INT_WIDTH signed bits hold it, and the free value where they do not. -/
theorem portVal_cases (v : Int) :
    ((-(2 ^ 31) ≤ v ∧ v < 2 ^ 31) ∧ portVal v = BitVec.ofInt 32 v ∧ (portVal v).toInt = v) ∨
    (¬(-(2 ^ 31) ≤ v ∧ v < 2 ^ 31) ∧ portVal v = Config.portOverflow v) := by
  by_cases h : -(2 ^ 31) ≤ v ∧ v < 2 ^ 31
  · have e : (BitVec.ofInt 32 v).toInt = v := toInt_ofInt_32 v h.1 h.2
    have p : portVal v = BitVec.ofInt 32 v := if_pos e
    exact .inl ⟨h, p, by rw [p, e]⟩
  · refine .inr ⟨h, if_neg fun e : (BitVec.ofInt 32 v).toInt = v => h ?_⟩
    have h1 := (BitVec.ofInt 32 v).le_toInt
    have h2 := (BitVec.ofInt 32 v).toInt_lt
    omega

theorem portVal_toInt (v : Int) (h1 : -(2 ^ 31) ≤ v) (h2 : v < 2 ^ 31) : (portVal v).toInt = v := by
  obtain ⟨-, -, h⟩ | ⟨h, -⟩ := portVal_cases v
  · exact h
  · exact absurd ⟨h1, h2⟩ h

theorem portVal_eq (v : Int) (h1 : -(2 ^ 31) ≤ v) (h2 : v < 2 ^ 31) : portVal v = BitVec.ofInt 32 v := by
  obtain ⟨-, h, -⟩ | ⟨h, -⟩ := portVal_cases v
  · exact h
  · exact absurd ⟨h1, h2⟩ h

theorem portVal_boolVal (b : Bool) : (portVal (boolVal b)).toInt = if b then 1 else 0 := by
  cases b <;> decide

theorem ppm_bounds (f : Frame) : 0 ≤ f.ppm ∧ f.ppm ≤ 65535 := by
  have := f.b2.isLt
  have := f.b3.isLt
  simp only [Frame.ppm]
  omega

/-- EXTRACT delivers ppm exactly: every value of it fits the port. -/
theorem extractLine_eq (s : State) :
    extractLine s = deliver ⟨.ok, BitVec.ofInt 32 s.resp.ppm⟩ { s with lasttemp := s.resp.temperature } := by
  have h := ppm_bounds s.resp
  unfold extractLine returnOk
  rw [portVal_eq _ (by omega) (by omega)]

/-! ### Gates -/

theorem gateSerialReady_none (s : State) : gateSerialReady s = none ↔ s.cfg.ser = true ∧ isReady s = true := by
  unfold gateSerialReady
  cases s.cfg.ser <;> cases isReady s <;> simp

theorem gatePwm_none (s : State) : gatePwm s = none ↔ s.cfg.pwm = true := by
  unfold gatePwm
  cases s.cfg.pwm <;> simp

theorem gateSetspan_none (v : Int) (s : State) :
    gateSetspan v s = none ↔ spanAccepted v = true ∧ s.cfg.ser = true ∧ isReady s = true := by
  unfold gateSetspan gateSpan
  cases spanAccepted v <;> simp [gateSerialReady_none]

theorem spanAccepted_iff (v : Int) : spanAccepted v = true ↔ 1000 ≤ v ∧ v ≤ 5000 := by
  simp only [spanAccepted, Bool.and_eq_true, decide_eq_true_eq]
  exact Iff.rfl

theorem afterGate_cases (g : Option Status) (s : State) (go : State → State) :
    (∃ st, g = some st ∧ afterGate g s go = raise st s) ∨ (g = none ∧ afterGate g s go = go s) := by
  cases g <;> simp [afterGate]

/-! ### Draws -/

theorem pulseResult_le (level : Level) (timeout : Nat) (s : State) : pulseResult level timeout s ≤ timeout := by
  cases level <;> simp [pulseResult]

theorem readCount_bounds (n : Nat) (s : State) :
    min n s.rxq.length ≤ readCount n s ∧ readCount n s ≤ n ∧
      readCount n s ≤ s.rxq.length + s.act.arrive.length := by
  unfold readCount
  omega

theorem rxReadN_spec (n : Nat) (s : State) :
    (rxReadN n s).1 = (s.rxq ++ s.act.arrive).take (readCount n s) ∧
      (rxReadN n s).2 =
        { s with
          now := s.now + min s.act.delay s.params.readnTimeout
          rxq := (s.rxq ++ s.act.arrive).drop (readCount n s) } :=
  ⟨rfl, rfl⟩

/-! ### The lines of PARSE_RESPONSE -/

theorem waitLine_cases (s : State) :
    (s.rxq = [] ∧ s.k = 10 ∧ waitLine s = toFlush .noResponse s) ∨
    (s.rxq = [] ∧ s.k ≠ 10 ∧ waitLine s = { sleep s.params.pollStep s with k := s.k + 1 }) ∨
    (s.rxq ≠ [] ∧ waitLine s = goto .resync s) := by
  unfold waitLine rxAvail Config.pollCycles
  by_cases hq : s.rxq = []
  · by_cases hk : s.k = 10 <;> simp [hq, hk]
  · simp [hq]

theorem resyncLine_cases (s : State) :
    (s.rxq = [] ∧ resyncLine s = .next (goto .read s)) ∨
    (∃ rest, s.rxq = 0xFF :: rest ∧ resyncLine s = .next (goto .read s)) ∨
    (∃ b rest, s.rxq = b :: rest ∧ b ≠ 0xFF ∧ resyncLine s = .next { s with rxq := rest }) := by
  unfold resyncLine rxAvail rxPeek rxPop Config.start
  cases hq : s.rxq with
  | nil => simp
  | cons b rest =>
    by_cases hb : b = 0xFF
    · subst hb
      exact .inr (.inl ⟨rest, rfl, by simp⟩)
    · refine .inr (.inr ⟨b, rest, rfl, hb, ?_⟩)
      simp only [List.length_cons, Nat.add_eq_zero_iff, one_ne_zero, and_false, ↓reduceIte]
      exact if_neg hb

theorem readLine_cases (s : State) :
    (s.rxq = [] ∧ readLine s = toFlush .incomplete s) ∨
    (s.rxq ≠ [] ∧
      ∃ u : State, u = { (rxReadN 9 s).2 with resp := s.resp.overwrite (rxReadN 9 s).1 } ∧
        ((readCount 9 s < 9 ∧ readLine s = toFlush .incomplete u) ∨
          (readCount 9 s = 9 ∧ readLine s = goto .check u))) := by
  by_cases hq : s.rxq = []
  · exact .inl ⟨hq, by simp [readLine, rxAvail, hq]⟩
  · refine .inr ⟨hq, _, rfl, ?_⟩
    have hb := readCount_bounds 9 s
    have hl : (rxReadN 9 s).1.length = readCount 9 s := by
      rw [(rxReadN_spec 9 s).1, List.length_take, List.length_append]
      omega
    by_cases hc : readCount 9 s < 9
    · refine .inl ⟨hc, ?_⟩
      simp only [readLine, rxAvail, List.length_eq_zero_iff, hq, Config.frameLen, if_false, hl, if_pos hc]
      rfl
    · refine .inr ⟨by omega, ?_⟩
      simp only [readLine, rxAvail, List.length_eq_zero_iff, hq, Config.frameLen, if_false, hl, if_neg hc]
      rfl

theorem checkLine_cases (r : Frame) (s : State) :
    (r.accepted = true ∧ checkLine r s = toFlush .ok s) ∨
    (r.accepted = false ∧
      checkLine r s = toFlush .checksumMismatch { s with lasttemp := s.params.codes.checksumMismatch }) := by
  unfold checkLine
  cases r.accepted <;> simp

theorem flushLine_ok (s : State) (h : s.pend = .ok) : flushLine s = goto .extract (rxFlush s) := by
  simp [flushLine, h]

theorem flushLine_failed (s : State) (h : s.pend ≠ .ok) : flushLine s = raise s.pend (rxFlush s) := by
  unfold flushLine
  cases hp : s.pend <;> simp_all

/-! ### The PWM decoder -/

theorem measureLine_cases (s : State) :
    ∃ d : Nat, d = pulseResult s.params.pwmLevel s.params.pwmTimeout s ∧
      ((d = 0 ∧ measureLine s = { during s.act.delay s with th := 0 }) ∨
        (d ≠ 0 ∧ measureLine s = goto .scale { during s.act.delay s with th := d })) := by
  refine ⟨_, rfl, ?_⟩
  unfold measureLine
  by_cases hd : pulseResult s.params.pwmLevel s.params.pwmTimeout s = 0
  · exact .inl ⟨hd, by simp [hd]⟩
  · exact .inr ⟨hd, by simp [hd]⟩

/-! ### Frames as instructions -/

theorem sendFrame_next (f : Frame) (s t : State) (h : sendFrame f s = .next t) : s.ph = .send ∧ t = transmit f s := by
  unfold sendFrame at h
  split at h
  · next hp => exact ⟨hp, by injection h with h; exact h.symm⟩
  · contradiction

theorem checkFrame_next (f : Frame) (s t : State) (h : checkFrame f s = .next t) : s.ph = .check ∧ t = checkLine f s := by
  unfold checkFrame at h
  split at h
  · next hp => exact ⟨hp, by injection h with h; exact h.symm⟩
  · contradiction

end Sys2Proof.Machine
end

