-- ==== Sys2Proof/Laws/Lines.lean ====
section
/-! SUPPORT. Every next state the block's own part of a step can answer, one constructor per line of the pseudocode of
spec/45_host_ops.md and spec/42_frame_parse.md: claims about all steps are proved by cases on `Line`, not by unfolding
`exec`. -/

namespace Sys2Proof.Machine

/-- The block goes from `s` to the given state by one line while running instruction `i`. -/
inductive Line (i : Instr) (s : State) : State → Prop
  /-- the command port takes a host operation -/
  | accept (hp : s.ph = .idle) (hi : allows i .gate = true) : Line i s (accept i s)
  /-- a gate fails -/
  | fail (st : Status) (hp : s.ph = .gate) (ho : s.op = some i) (hst : st ≠ .ok) : Line i s (raise st s)
  /-- the gates of a sending operation pass -/
  | toBuild (f : Frame) (hp : s.ph = .gate) (ho : s.op = some i) (hf : frameOf i = some f) (hser : s.cfg.ser = true)
      (hr : isReady s = true) (hv : ∀ v, i = .setspan v → spanAccepted v = true) : Line i s (goto .build s)
  /-- GETTEMP, ISPRE or ISRDY answers -/
  | answer (v : Int) (hp : s.ph = .gate) (ho : s.op = some i)
      (hv : ∃ a, (i = .gettemp a ∧ v = s.lasttemp) ∨ (i = .ispre a ∧ v = boolVal (isPreheating s)) ∨
        (i = .isrdy a ∧ v = boolVal (isReady s))) : Line i s (returnOk v s)
  /-- the gate of RDPWM passes -/
  | toMeasure (a : BitVec 32) (hi : i = .rdpwm a) (hp : s.ph = .gate) (ho : s.op = some i) (hpwm : s.cfg.pwm = true) :
      Line i s (goto .measure s)
  /-- BUILD -/
  | build (f : Frame) (hp : s.ph = .build) (ho : s.op = some i) (hf : frameOf i = some f)
      (hv : ∀ v, i = .setspan v → spanAccepted v = true) : Line i s (buildCmd f s)
  /-- BUILD_SPAN's own test fails -/
  | buildFail (v : Int) (hi : i = .setspan v) (hp : s.ph = .build) (ho : s.op = some i) (hv : spanAccepted v = false) :
      Line i s (raise .badSpanValue s)
  /-- SEND of the frame `f`: the frame that is the instruction, or the one in CMD -/
  | send (f : Frame) (hp : s.ph = .send)
      (hf : encode i = .cf f ∨ (f = s.cmd ∧ s.op = some i ∧ (frameOf i).isSome = true)) : Line i s (transmit f s)
  /-- SETTLE of a set operation -/
  | settleSet (hp : s.ph = .settle) (ho : s.op = some i) : Line i s (returnVoid (settleDelay s))
  /-- SETTLE of RDUART -/
  | settleRead (a : BitVec 32) (hi : i = .rduart a) (hp : s.ph = .settle) (ho : s.op = some i) :
      Line i s (beginParse (settleDelay s))
  /-- WAIT -/
  | wait (a : BitVec 32) (hi : i = .rduart a) (hp : s.ph = .wait) (ho : s.op = some i) : Line i s (waitLine s)
  /-- RESYNC, the scan ends -/
  | resyncEnd (a : BitVec 32) (hi : i = .rduart a) (hp : s.ph = .resync) (ho : s.op = some i)
      (hq : s.rxq = [] ∨ ∃ rest, s.rxq = 0xFF :: rest) : Line i s (goto .read s)
  /-- RESYNC, one byte is discarded -/
  | resyncPop (a : BitVec 32) (b : Byte) (rest : List Byte) (hi : i = .rduart a) (hp : s.ph = .resync) (ho : s.op = some i)
      (hq : s.rxq = b :: rest) (hb : b ≠ 0xFF) : Line i s { s with rxq := rest }
  /-- READ -/
  | read (a : BitVec 32) (hi : i = .rduart a) (hp : s.ph = .read) (ho : s.op = some i) : Line i s (readLine s)
  /-- CHECK of the frame `r`: the frame that is the instruction, or the one in RESP -/
  | check (r : Frame) (hp : s.ph = .check) (hr : i = .resp r ∨ (r = s.resp ∧ s.op = some i ∧ ∃ a, i = .rduart a)) :
      Line i s (checkLine r s)
  /-- FLUSH -/
  | flush (a : BitVec 32) (hi : i = .rduart a) (hp : s.ph = .flush) (ho : s.op = some i) : Line i s (flushLine s)
  /-- EXTRACT -/
  | extract (a : BitVec 32) (hi : i = .rduart a) (hp : s.ph = .extract) (ho : s.op = some i) : Line i s (extractLine s)
  /-- MEASURE -/
  | measure (a : BitVec 32) (hi : i = .rdpwm a) (hp : s.ph = .measure) (ho : s.op = some i) : Line i s (measureLine s)
  /-- SCALE -/
  | scale (a : BitVec 32) (hi : i = .rdpwm a) (hp : s.ph = .scale) (ho : s.op = some i) : Line i s (scaleLine s)

theorem gateSerialReady_ne_ok (s : State) (st : Status) (h : gateSerialReady s = some st) : st ≠ .ok := by
  unfold gateSerialReady at h
  split at h
  · cases h; simp
  · split at h <;> cases h; simp

theorem gateSerialWarm_ne_ok (s : State) (st : Status) (h : gateSerialWarm s = some st) : st ≠ .ok := by
  unfold gateSerialWarm at h
  split at h
  · cases h; simp
  · split at h <;> cases h; simp

theorem gatePwm_ne_ok (s : State) (st : Status) (h : gatePwm s = some st) : st ≠ .ok := by
  unfold gatePwm at h
  split at h <;> cases h; simp

theorem gateSetspan_ne_ok (v : Int) (s : State) (st : Status) (h : gateSetspan v s = some st) : st ≠ .ok := by
  unfold gateSetspan gateSpan at h
  cases hv : spanAccepted v <;> rw [hv] at h
  · cases h; simp
  · exact gateSerialReady_ne_ok s st h

theorem execRduart_line (a : BitVec 32) (s t : State) (h : execRduart a s = .next t) : Line (.rduart a) s t := by
  obtain ⟨hp, rfl⟩ | ⟨hp, ho, h⟩ := hostOp_next _ _ _ _ h
  · exact .accept hp (by simp [allows])
  · cases hph : s.ph <;> simp only [hph, reduceCtorEq] at h
    · injection h with h; subst h
      obtain ⟨st, hg, he⟩ | ⟨hg, he⟩ := afterGate_cases (gateSerialReady s) s (goto .build) <;> rw [he]
      · exact .fail st hph ho (gateSerialReady_ne_ok s st hg)
      · obtain ⟨h1, h2⟩ := (gateSerialReady_none s).1 hg
        exact .toBuild frameRead hph ho rfl h1 h2 (by simp)
    · injection h with h; subst h; exact .build frameRead hph ho rfl (by simp)
    · injection h with h; subst h; exact .send s.cmd hph (.inr ⟨rfl, ho, rfl⟩)
    · injection h with h; subst h; exact .settleRead a rfl hph ho
    · injection h with h; subst h; exact .wait a rfl hph ho
    · obtain ⟨hq, he⟩ | ⟨rest, hq, he⟩ | ⟨b, rest, hq, hb, he⟩ := resyncLine_cases s <;> rw [he] at h <;>
        injection h with h <;> subst h
      · exact .resyncEnd a rfl hph ho (.inl hq)
      · exact .resyncEnd a rfl hph ho (.inr ⟨rest, hq⟩)
      · exact .resyncPop a b rest rfl hph ho hq hb
    · injection h with h; subst h; exact .read a rfl hph ho
    · injection h with h; subst h; exact .check s.resp hph (.inr ⟨rfl, ho, a, rfl⟩)
    · injection h with h; subst h; exact .flush a rfl hph ho
    · injection h with h; subst h; exact .extract a rfl hph ho

theorem execGettemp_line (a : BitVec 32) (s t : State) (h : execGettemp a s = .next t) : Line (.gettemp a) s t := by
  obtain ⟨hp, rfl⟩ | ⟨hp, ho, h⟩ := hostOp_next _ _ _ _ h
  · exact .accept hp (by simp [allows])
  · cases hph : s.ph <;> simp only [hph, reduceCtorEq] at h
    injection h with h; subst h
    obtain ⟨st, hg, he⟩ | ⟨hg, he⟩ := afterGate_cases (gateSerialWarm s) s (returnOk s.lasttemp) <;> rw [he]
    · exact .fail st hph ho (gateSerialWarm_ne_ok s st hg)
    · exact .answer _ hph ho ⟨a, .inl ⟨rfl, rfl⟩⟩

theorem execIspre_line (a : BitVec 32) (s t : State) (h : execIspre a s = .next t) : Line (.ispre a) s t := by
  obtain ⟨hp, rfl⟩ | ⟨hp, ho, h⟩ := hostOp_next _ _ _ _ h
  · exact .accept hp (by simp [allows])
  · cases hph : s.ph <;> simp only [hph, reduceCtorEq] at h
    injection h with h; subst h
    exact .answer _ hph ho ⟨a, .inr (.inl ⟨rfl, rfl⟩)⟩

theorem execIsrdy_line (a : BitVec 32) (s t : State) (h : execIsrdy a s = .next t) : Line (.isrdy a) s t := by
  obtain ⟨hp, rfl⟩ | ⟨hp, ho, h⟩ := hostOp_next _ _ _ _ h
  · exact .accept hp (by simp [allows])
  · cases hph : s.ph <;> simp only [hph, reduceCtorEq] at h
    injection h with h; subst h
    exact .answer _ hph ho ⟨a, .inr (.inr ⟨rfl, rfl⟩)⟩

theorem execRdpwm_line (a : BitVec 32) (s t : State) (h : execRdpwm a s = .next t) : Line (.rdpwm a) s t := by
  obtain ⟨hp, rfl⟩ | ⟨hp, ho, h⟩ := hostOp_next _ _ _ _ h
  · exact .accept hp (by simp [allows])
  · cases hph : s.ph <;> simp only [hph, reduceCtorEq] at h <;> injection h with h <;> subst h
    · obtain ⟨st, hg, he⟩ | ⟨hg, he⟩ := afterGate_cases (gatePwm s) s (goto .measure) <;> rw [he]
      · exact .fail st hph ho (gatePwm_ne_ok s st hg)
      · exact .toMeasure a rfl hph ho ((gatePwm_none s).1 hg)
    · exact .measure a rfl hph ho
    · exact .scale a rfl hph ho

/-- The lines of the set operations, for operation `i` whose gates are `g` and whose frame is `f`. -/
theorem setLines_line (i : Instr) (g : Option Status) (f : Frame) (s t : State) (ho : s.op = some i)
    (hf : frameOf i = some f) (hst : ∀ st, g = some st → st ≠ .ok)
    (hg : g = none → s.cfg.ser = true ∧ isReady s = true ∧ ∀ v, i = .setspan v → spanAccepted v = true)
    (hb : s.ph = .build → ∀ v, i = .setspan v → spanAccepted v = true)
    (h : setLines g f s s.ph = .next t) : Line i s t := by
  cases hph : s.ph <;> simp only [setLines, hph, reduceCtorEq] at h <;> injection h with h <;> subst h
  · obtain ⟨st, hs, he⟩ | ⟨hn, he⟩ := afterGate_cases g s (goto .build) <;> rw [he]
    · exact .fail st hph ho (hst st hs)
    · obtain ⟨h1, h2, h3⟩ := hg hn
      exact .toBuild f hph ho hf h1 h2 h3
  · exact .build f hph ho hf (hb hph)
  · exact .send s.cmd hph (.inr ⟨rfl, ho, by simp [hf]⟩)
  · exact .settleSet hph ho

theorem execSetabc_line (e : Bool) (r : BitVec 31) (s t : State) (h : execSetabc e r s = .next t) :
    Line (.setabc e r) s t := by
  obtain ⟨hp, rfl⟩ | ⟨hp, ho, h⟩ := hostOp_next _ _ _ _ h
  · exact .accept hp (by simp [allows])
  · exact setLines_line _ _ _ s t ho rfl (gateSerialReady_ne_ok s)
      (fun hn => ⟨((gateSerialReady_none s).1 hn).1, ((gateSerialReady_none s).1 hn).2, by simp⟩) (by simp) h

theorem execSetbg_line (a : BitVec 32) (s t : State) (h : execSetbg a s = .next t) : Line (.setbg a) s t := by
  obtain ⟨hp, rfl⟩ | ⟨hp, ho, h⟩ := hostOp_next _ _ _ _ h
  · exact .accept hp (by simp [allows])
  · exact setLines_line _ _ _ s t ho rfl (gateSerialReady_ne_ok s)
      (fun hn => ⟨((gateSerialReady_none s).1 hn).1, ((gateSerialReady_none s).1 hn).2, by simp⟩) (by simp) h

theorem execSetspan_line (v : Int) (s t : State) (h : execSetspan v s = .next t) : Line (.setspan v) s t := by
  obtain ⟨hp, rfl⟩ | ⟨hp, ho, h⟩ := hostOp_next _ _ _ _ h
  · exact .accept hp (by simp [allows])
  · by_cases hb : s.ph = .build
    · simp only [hb] at h
      injection h with h; subst h
      unfold buildSpanLine buildSpan
      cases hv : spanAccepted v
      · exact .buildFail v rfl hb ho hv
      · exact .build _ hb ho rfl (by rintro w ⟨rfl⟩; exact hv)
    · refine setLines_line _ (gateSetspan v s) (frameSpan v.toNat) s t ho rfl (gateSetspan_ne_ok v s) ?_
        (fun hb' => absurd hb' hb) ?_
      · intro hn
        obtain ⟨h1, h2, h3⟩ := (gateSetspan_none v s).1 hn
        exact ⟨h2, h3, by rintro w ⟨rfl⟩; exact h1⟩
      · cases hph : s.ph <;> simp_all

theorem sendFrame_line (i : Instr) (f : Frame) (s t : State) (he : encode i = .cf f) (h : sendFrame f s = .next t) :
    Line i s t := by
  obtain ⟨hp, rfl⟩ := sendFrame_next f s t h
  exact .send f hp (.inl he)

/-- Whatever `exec` answers, it is one of the lines. -/
theorem exec_line (i : Instr) (s t : State) (h : exec i s = .next t) : Line i s t := by
  cases i with
  | cmdRead => exact sendFrame_line _ _ s t rfl h
  | cmdAbcOn => exact sendFrame_line _ _ s t rfl h
  | cmdAbcOff => exact sendFrame_line _ _ s t rfl h
  | cmdBg => exact sendFrame_line _ _ s t rfl h
  | cmdSpan v => exact sendFrame_line _ _ s t rfl h
  | resp f =>
    obtain ⟨hp, rfl⟩ := checkFrame_next f s t h
    exact .check f hp (.inl rfl)
  | rduart a => exact execRduart_line a s t h
  | rdpwm a => exact execRdpwm_line a s t h
  | gettemp a => exact execGettemp_line a s t h
  | setabc e r => exact execSetabc_line e r s t h
  | setbg a => exact execSetbg_line a s t h
  | setspan v => exact execSetspan_line v s t h
  | ispre a => exact execIspre_line a s t h
  | isrdy a => exact execIsrdy_line a s t h
  | hcReserved0 a => exact absurd h (by simp [exec, execHcReserved0, refuseReserved])
  | hcReserved9 a => exact absurd h (by simp [exec, execHcReserved9, refuseReserved])
  | hcReservedA a => exact absurd h (by simp [exec, execHcReservedA, refuseReserved])
  | hcReservedB a => exact absurd h (by simp [exec, execHcReservedB, refuseReserved])
  | hcReservedC a => exact absurd h (by simp [exec, execHcReservedC, refuseReserved])
  | hcReservedD a => exact absurd h (by simp [exec, execHcReservedD, refuseReserved])
  | hcReservedE a => exact absurd h (by simp [exec, execHcReservedE, refuseReserved])
  | hcReservedF a => exact absurd h (by simp [exec, execHcReservedF, refuseReserved])

end Sys2Proof.Machine
end

