-- ==== Sys2Proof/Laws/PerInstr.lean ====
section
/-! SUPPORT. One law about every instruction as syntax: the bits of its encoding meet the `match` and `mask` that its row of
spec/opcode_table.json gives. -/

namespace Sys2Proof.Laws.TableRow

open Sys2Proof

/-- The fixed bits of a row: `match` and `mask`, 36 bits wide for format HC, 72 for the frames. -/
inductive Row where
  | hc (pattern mask : BitVec 36)
  | frame (pattern mask : BitVec 72)
deriving DecidableEq, Repr

/-- The row of an instruction, the numbers as spec/opcode_table.json has them. -/
def row : Instr → Row
  | .cmdRead => .frame 0xFF0186000000000079 0xFFFFFFFFFFFFFFFFFF
  | .cmdAbcOn => .frame 0xFF0179A000000000E6 0xFFFFFFFFFFFFFFFFFF
  | .cmdAbcOff => .frame 0xFF0179000000000086 0xFFFFFFFFFFFFFFFFFF
  | .cmdBg => .frame 0xFF0187000000000078 0xFFFFFFFFFFFFFFFFFF
  | .cmdSpan _ => .frame 0xFF0188000000000000 0xFFFFFF0000FFFFFF00
  | .resp _ => .frame 0x000000000000000000 0x000000000000000000
  | .rduart _ => .hc 0x100000000 0xF00000000
  | .rdpwm _ => .hc 0x200000000 0xF00000000
  | .gettemp _ => .hc 0x300000000 0xF00000000
  | .setabc _ _ => .hc 0x400000000 0xF00000000
  | .setbg _ => .hc 0x500000000 0xF00000000
  | .setspan _ => .hc 0x600000000 0xF00000000
  | .ispre _ => .hc 0x700000000 0xF00000000
  | .isrdy _ => .hc 0x800000000 0xF00000000
  | .hcReserved0 _ => .hc 0x000000000 0xF00000000
  | .hcReserved9 _ => .hc 0x900000000 0xF00000000
  | .hcReservedA _ => .hc 0xA00000000 0xF00000000
  | .hcReservedB _ => .hc 0xB00000000 0xF00000000
  | .hcReservedC _ => .hc 0xC00000000 0xF00000000
  | .hcReservedD _ => .hc 0xD00000000 0xF00000000
  | .hcReservedE _ => .hc 0xE00000000 0xF00000000
  | .hcReservedF _ => .hc 0xF00000000 0xF00000000

/-- The encoded bits meet the row. -/
def meets : Encoded → Row → Prop
  | .hc w, .hc pattern mask => w &&& mask = pattern
  | .cf f, .frame pattern mask => f.toBits &&& mask = pattern
  | .rf f, .frame pattern mask => f.toBits &&& mask = pattern
  | _, _ => False

/-- The encoding of a well-formed instruction meets the row of the table. -/
def Statement (i : Instr) : Prop :=
  i.wf = true → meets (encode i) (row i)

theorem hcWord_mask (sel : BitVec 4) (arg : BitVec 32) : hcWord sel arg &&& hcWord 0xF 0 = hcWord sel 0 := by
  have h : (hcWord sel arg &&& hcWord 0xF 0) = (sel &&& 0xF) ++ (arg &&& 0) := BitVec.and_append
  rw [h, show arg &&& 0 = 0 from BitVec.and_zero, show sel &&& 0xF = sel from BitVec.and_allOnes]
  rfl

theorem toBits_mask (f m : Frame) :
    f.toBits &&& m.toBits =
      Frame.toBits ⟨f.b0 &&& m.b0, f.b1 &&& m.b1, f.b2 &&& m.b2, f.b3 &&& m.b3, f.b4 &&& m.b4, f.b5 &&& m.b5,
        f.b6 &&& m.b6, f.b7 &&& m.b7, f.b8 &&& m.b8⟩ := by
  simp only [Frame.toBits]
  repeat rw [BitVec.and_append]

theorem cmdRead : Statement .cmdRead :=
  fun _ => (by decide : Frame.toBits frameRead &&& 0xFFFFFFFFFFFFFFFFFF = 0xFF0186000000000079)

theorem cmdAbcOn : Statement .cmdAbcOn :=
  fun _ => (by decide : Frame.toBits (frameAbc true) &&& 0xFFFFFFFFFFFFFFFFFF = 0xFF0179A000000000E6)

theorem cmdAbcOff : Statement .cmdAbcOff :=
  fun _ => (by decide : Frame.toBits (frameAbc false) &&& 0xFFFFFFFFFFFFFFFFFF = 0xFF0179000000000086)

theorem cmdBg : Statement .cmdBg :=
  fun _ => (by decide : Frame.toBits frameBg &&& 0xFFFFFFFFFFFFFFFFFF = 0xFF0187000000000078)

theorem cmdSpan (s : Nat) : Statement (.cmdSpan s) :=
  fun _ => (toBits_mask (frameSpan s) ⟨0xFF, 0xFF, 0xFF, 0x00, 0x00, 0xFF, 0xFF, 0xFF, 0x00⟩).trans (by simp [frameSpan]; decide)

theorem resp (f : Frame) : Statement (.resp f) :=
  fun _ => BitVec.and_zero

theorem rduart (arg : BitVec 32) : Statement (.rduart arg) :=
  fun _ => hcWord_mask 0x1 _

theorem rdpwm (arg : BitVec 32) : Statement (.rdpwm arg) :=
  fun _ => hcWord_mask 0x2 _

theorem gettemp (arg : BitVec 32) : Statement (.gettemp arg) :=
  fun _ => hcWord_mask 0x3 _

theorem setabc (e : Bool) (r : BitVec 31) : Statement (.setabc e r) :=
  fun _ => hcWord_mask 0x4 _

theorem setbg (arg : BitVec 32) : Statement (.setbg arg) :=
  fun _ => hcWord_mask 0x5 _

theorem setspan (v : Int) : Statement (.setspan v) :=
  fun _ => hcWord_mask 0x6 _

theorem ispre (arg : BitVec 32) : Statement (.ispre arg) :=
  fun _ => hcWord_mask 0x7 _

theorem isrdy (arg : BitVec 32) : Statement (.isrdy arg) :=
  fun _ => hcWord_mask 0x8 _

theorem hcReserved0 (arg : BitVec 32) : Statement (.hcReserved0 arg) :=
  fun _ => hcWord_mask 0x0 _

theorem hcReserved9 (arg : BitVec 32) : Statement (.hcReserved9 arg) :=
  fun _ => hcWord_mask 0x9 _

theorem hcReservedA (arg : BitVec 32) : Statement (.hcReservedA arg) :=
  fun _ => hcWord_mask 0xA _

theorem hcReservedB (arg : BitVec 32) : Statement (.hcReservedB arg) :=
  fun _ => hcWord_mask 0xB _

theorem hcReservedC (arg : BitVec 32) : Statement (.hcReservedC arg) :=
  fun _ => hcWord_mask 0xC _

theorem hcReservedD (arg : BitVec 32) : Statement (.hcReservedD arg) :=
  fun _ => hcWord_mask 0xD _

theorem hcReservedE (arg : BitVec 32) : Statement (.hcReservedE arg) :=
  fun _ => hcWord_mask 0xE _

theorem hcReservedF (arg : BitVec 32) : Statement (.hcReservedF arg) :=
  fun _ => hcWord_mask 0xF _

end Sys2Proof.Laws.TableRow
end

