-- ==== Sys2Proof/Laws/Step.lean ====
section
/-! SUPPORT. What a fetch and a step can do, said once. -/

namespace Sys2Proof.Machine

theorem thenEnvironment_next (r : Result) (t : State) :
    thenEnvironment r = .next t ↔ ∃ u, r = .next u ∧ t = environment u := by
  cases r with
  | next u => simp [thenEnvironment, eq_comm]
  | fault _ => simp [thenEnvironment]
  | refused _ => simp [thenEnvironment]

/-- The four ways a fetch answers an instruction or nothing. -/
theorem fetch_next (s u : State) (o : Option Instr) (h : fetch s = .next (o, u)) :
    (s.ph = .idle ∧
      ((∃ w rest, (s.host = .issue w :: rest ∨ s.host = .force w :: rest) ∧ o = some (decodeHC w) ∧
          u = { s with host := rest }) ∨
        (∃ d rest, s.host = .wait d :: rest ∧ o = none ∧ u = sleep d { s with host := rest }) ∨
        (s.host = [] ∧ o = none ∧ u = s))) ∨
    (s.ph = .send ∧ u = s ∧ ∃ i, o = some i ∧ decodeCF s.cmd = .ok i) ∨
    (s.ph = .check ∧ u = s ∧ o = some (.resp s.resp)) ∨
    (s.ph ≠ .idle ∧ s.ph ≠ .send ∧ s.ph ≠ .check ∧ u = s ∧ o = s.op ∧ s.op ≠ none) := by
  unfold fetch at h
  split at h
  · next hp =>
    refine .inl ⟨hp, ?_⟩
    unfold fetchIdle at h
    split at h
    · next w rest hh =>
      simp only [decoded, decode] at h
      injection h with h
      obtain ⟨rfl, rfl⟩ := Prod.mk.inj h
      exact .inl ⟨w, rest, .inl hh, rfl, rfl⟩
    · next w rest hh =>
      simp only [decoded, decode] at h
      injection h with h
      obtain ⟨rfl, rfl⟩ := Prod.mk.inj h
      exact .inl ⟨w, rest, .inr hh, rfl, rfl⟩
    · next d rest hh =>
      injection h with h
      obtain ⟨rfl, rfl⟩ := Prod.mk.inj h
      exact .inr (.inl ⟨d, rest, hh, rfl, rfl⟩)
    · next hh =>
      injection h with h
      obtain ⟨rfl, rfl⟩ := Prod.mk.inj h
      exact .inr (.inr ⟨hh, rfl, rfl⟩)
  · next hp =>
    right
    unfold fetchBusy at h
    split at h
    · contradiction
    · split at h
      · next hs =>
        cases hd : decodeCF s.cmd with
        | ok i =>
          simp only [decoded, decode, hd] at h
          injection h with h
          obtain ⟨rfl, rfl⟩ := Prod.mk.inj h
          exact .inl ⟨hs, rfl, i, rfl, rfl⟩
        | error e =>
          cases e
          simp only [decoded, decode, hd] at h
          contradiction
      · next hs =>
        simp only [decoded, decode] at h
        injection h with h
        obtain ⟨rfl, rfl⟩ := Prod.mk.inj h
        exact .inr (.inl ⟨hs, rfl, rfl⟩)
      · next h1 h2 =>
        split at h
        · next i ho =>
          injection h with h
          obtain ⟨rfl, rfl⟩ := Prod.mk.inj h
          exact .inr (.inr ⟨hp, h1, h2, rfl, ho.symm, by simp [ho]⟩)
        · contradiction

/-- A step that answers a next state: the fetch found an instruction that ran, or nothing; then the environment acted. -/
theorem step_next (s t : State) (h : step s = .next t) :
    (∃ i u v, fetch s = .next (some i, u) ∧ exec i u = .next v ∧ t = environment v) ∨
    (∃ u, fetch s = .next (none, u) ∧ t = environment u) := by
  unfold step at h
  split at h
  · next i u hf =>
    obtain ⟨v, hv, rfl⟩ := (thenEnvironment_next _ _).1 h
    exact .inl ⟨i, u, v, hf, hv, rfl⟩
  · next u hf =>
    injection h with h
    exact .inr ⟨u, hf, h.symm⟩
  · contradiction
  · contradiction

theorem step_of_fetch (s u : State) (i : Instr) (h : fetch s = .next (some i, u)) :
    step s = thenEnvironment (exec i u) := by
  simp [step, h]

theorem step_of_fetch_none (s u : State) (h : fetch s = .next (none, u)) : step s = .next (environment u) := by
  simp [step, h]

end Sys2Proof.Machine
end

