-- ==== Sys2Proof/Laws/Run.lean ====
section
/-! SUPPORT. One step of a run. -/

namespace Sys2Proof.Machine

theorem run_of_step (n : Nat) (s t : State) (h : step s = .next t) :
    Host.Core.run Sys2Proof.core (n + 1) s = Host.Core.run Sys2Proof.core n t := by
  simp only [Host.Core.run]
  rw [show Sys2Proof.core.step s = .next t from h]

theorem step_of_exec (s u v : State) (i : Instr) (hf : fetch s = .next (some i, u)) (he : exec i u = .next v) :
    step s = .next (environment v) := by
  rw [step_of_fetch s u i hf, he]
  rfl

end Sys2Proof.Machine
end

