-- ==== Sys2Proof/Tests/Slice0.lean ====
section
/-! SUPPORT. Tests: what WellFormed refuses, a written-out word for every constructor, single steps with the values of
95_test_vectors.md and of the worked examples of the rules (instantiation EX), and for every obligation with hypotheses a
state that meets them. -/

namespace Sys2Proof.Tests

open Sys2Proof Sys2Proof.Machine

/-! ### Helpers -/

/-- The answer is a next state that passes `p`. -/
def after (r : Result) (p : State → Bool) : Bool :=
  match r with
  | .next t => p t
  | .fault _ => false
  | .refused _ => false

theorem next_of_after (r : Result) (p : State → Bool) (h : after r p = true) : ∃ t, r = .next t ∧ p t = true := by
  unfold after at h
  split at h
  · exact ⟨_, rfl, h⟩
  · contradiction
  · contradiction

/-- The answer is this refusal. -/
def refuses (r : Result) (e : Refusal) : Bool :=
  match r with
  | .refused x => decide (x = e)
  | .next _ => false
  | .fault _ => false

/-- Instantiation EX of 95_test_vectors.md. -/
def ex : Params where
  timingA := ⟨180000, 60000⟩
  timingB := ⟨240000, 120000⟩
  policy := .permissive
  pollStep := 1000
  readnTimeout := 500
  pwmTimeout := 5000
  pwmLevel := .high
  codes := ⟨-2, -3, -4, -5, -6, -7, -8⟩
  lasttempReset := 9999

/-- An act in which nothing arrives and no time passes. -/
def quiet : EnvAct :=
  ⟨0, [], 0, 0, 0, 0, []⟩

/-- Variant A with both channels, `op` in phase `p`, at `now`; the environment is quiet for sixteen steps. -/
def at_ (op : Option Instr) (p : Phase) (now lastreq : Nat) : State :=
  { State.construct ⟨.A, ⟨true, true⟩, ex, Frame.zero, Frame.zero, 0, 0, []⟩ with
    op := op, ph := p, now := now, lastreq := lastreq, env := List.replicate 16 quiet }

/-- The frame of R153(b): ppm 400, temperature 27. -/
def good : Frame :=
  ⟨0xFF, 0x86, 0x01, 0x90, 0x43, 0x00, 0x00, 0x00, 0xA6⟩

/-- A frame whose byte 8 is not its checksum 0x67. -/
def bad : Frame :=
  ⟨0xFF, 0x86, 0x01, 0xF4, 0x1E, 0x00, 0x00, 0x00, 0x68⟩

/-- CMD_READ by its bytes (R84). -/
def readBytes : Frame :=
  ⟨0xFF, 0x01, 0x86, 0x00, 0x00, 0x00, 0x00, 0x00, 0x79⟩

/-! ### WellFormed refuses ill-formed terms -/

theorem test_wf_span_below : (Instr.cmdSpan 999).wf = false := by decide
theorem test_wf_span_above : (Instr.cmdSpan 5001).wf = false := by decide
theorem test_wf_setspan_below : (Instr.setspan (-2147483649)).wf = false := by decide
theorem test_wf_setspan_above : (Instr.setspan 2147483648).wf = false := by decide
theorem test_wf_bounds :
    (Instr.cmdSpan 1000).wf = true ∧ (Instr.cmdSpan 5000).wf = true ∧ (Instr.setspan (-2147483648)).wf = true ∧
      (Instr.setspan 2147483647).wf = true := by decide

/-! ### A word written out for every constructor (30_encoding.md) -/

theorem test_decode_cmdRead : decode (.cf ⟨0xFF, 0x01, 0x86, 0x00, 0x00, 0x00, 0x00, 0x00, 0x79⟩) = .ok .cmdRead := by decide
theorem test_decode_cmdAbcOn : decode (.cf ⟨0xFF, 0x01, 0x79, 0xA0, 0x00, 0x00, 0x00, 0x00, 0xE6⟩) = .ok .cmdAbcOn := by decide
theorem test_decode_cmdAbcOff : decode (.cf ⟨0xFF, 0x01, 0x79, 0x00, 0x00, 0x00, 0x00, 0x00, 0x86⟩) = .ok .cmdAbcOff := by decide
theorem test_decode_cmdBg : decode (.cf ⟨0xFF, 0x01, 0x87, 0x00, 0x00, 0x00, 0x00, 0x00, 0x78⟩) = .ok .cmdBg := by decide
theorem test_decode_cmdSpan : decode (.cf ⟨0xFF, 0x01, 0x88, 0x07, 0xD0, 0x00, 0x00, 0x00, 0xA0⟩) = .ok (.cmdSpan 2000) := by decide
theorem test_decode_cmdSpan_bounds :
    decode (.cf ⟨0xFF, 0x01, 0x88, 0x03, 0xE8, 0x00, 0x00, 0x00, 0x8C⟩) = .ok (.cmdSpan 1000) ∧
      decode (.cf ⟨0xFF, 0x01, 0x88, 0x13, 0x88, 0x00, 0x00, 0x00, 0xDC⟩) = .ok (.cmdSpan 5000) := by decide
theorem test_decode_resp : decode (.rf good) = .ok (.resp good) := by decide
theorem test_decode_no_command : decode (.cf good) = .error .notACommandFrame := by decide
theorem test_decode_rduart :
    decode (.hc 0b000100000000000000000000000000000000) = .ok (.rduart 0) := by decide
theorem test_decode_rdpwm :
    decode (.hc 0b001010000000000000000000000000000000) = .ok (.rdpwm 0x80000000) := by decide
theorem test_decode_gettemp :
    decode (.hc 0b001100000000000000000000000000000001) = .ok (.gettemp 1) := by decide
theorem test_decode_setabc_on :
    decode (.hc 0b010000000000000000000000000000000001) = .ok (.setabc true 0) := by decide
theorem test_decode_setabc_off :
    decode (.hc 0b010011111111111111111111111111111110) = .ok (.setabc false 0x7FFFFFFF) := by decide
theorem test_decode_setbg :
    decode (.hc 0b010100000000000000000000000000000000) = .ok (.setbg 0) := by decide
theorem test_decode_setspan :
    decode (.hc 0b011000000000000000000000011111010000) = .ok (.setspan 2000) := by decide
theorem test_decode_setspan_negative :
    decode (.hc 0b011011111111111111111111111111111111) = .ok (.setspan (-1)) := by decide
theorem test_decode_ispre :
    decode (.hc 0b011100000000000000000000000000000000) = .ok (.ispre 0) := by decide
theorem test_decode_isrdy :
    decode (.hc 0b100000000000000000000000000000000000) = .ok (.isrdy 0) := by decide
theorem test_decode_hcReserved0 :
    decode (.hc 0b000000000000000000000000000000000101) = .ok (.hcReserved0 5) := by decide
theorem test_decode_hcReserved9 :
    decode (.hc 0b100100000000000000000000000000000101) = .ok (.hcReserved9 5) := by decide
theorem test_decode_hcReservedA :
    decode (.hc 0b101000000000000000000000000000000101) = .ok (.hcReservedA 5) := by decide
theorem test_decode_hcReservedB :
    decode (.hc 0b101100000000000000000000000000000101) = .ok (.hcReservedB 5) := by decide
theorem test_decode_hcReservedC :
    decode (.hc 0b110000000000000000000000000000000101) = .ok (.hcReservedC 5) := by decide
theorem test_decode_hcReservedD :
    decode (.hc 0b110100000000000000000000000000000101) = .ok (.hcReservedD 5) := by decide
theorem test_decode_hcReservedE :
    decode (.hc 0b111000000000000000000000000000000101) = .ok (.hcReservedE 5) := by decide
theorem test_decode_hcReservedF :
    decode (.hc 0b111100000000000000000000000000000101) = .ok (.hcReservedF 5) := by decide
theorem test_table_words :
    decodeTableWord 72 0xFF0187000000000078 = some .cmdBg ∧ decodeTableWord 72 0xFF860190430000 = some (.resp ⟨0x00, 0x00,
      0xFF, 0x86, 0x01, 0x90, 0x43, 0x00, 0x00⟩) ∧ decodeTableWord 40 0x6000007D0 = some (.setspan 2000) ∧
      decodeTableWord 40 0x1000000000 = none := by decide

/-! ### Straps, checksum, scaler -/

/-- V-CS vectors of 95_test_vectors.md and R111. -/
theorem test_checksum :
    checksum Frame.zero = 0x00 ∧ checksum ⟨0xFF, 0x01, 0x86, 0, 0, 0, 0, 0, 0⟩ = 0x79 ∧ checksum good = 0xA6 ∧
      checksum bad = 0x67 := by decide

/-- R192. -/
theorem test_scaler : [1, 2, 502, 1002, 1004, 2000].map pwmDecode = [-2, 0, 1000, 2000, 2004, 3996] := by decide

/-! ### Single steps -/

/-- A state in phase SEND of the operation `i` with the frame `f` in CMD. -/
def sending (i : Instr) (f : Frame) : State :=
  { at_ (some i) .send 200000 0 with cmd := f }

/-- The bytes joined TXS, LASTREQ is stamped, SETTLE follows. -/
def sent (bytes : List Byte) (t : State) : Bool :=
  decide (t.txs = bytes) && decide (t.lastreq = 200000) && decide (t.ph = .settle)

theorem test_exec_cmdRead :
    after (exec .cmdRead (sending (.rduart 0) readBytes)) (sent [0xFF, 0x01, 0x86, 0x00, 0x00, 0x00, 0x00, 0x00, 0x79]) = true := by decide
theorem test_exec_cmdAbcOn :
    after (exec .cmdAbcOn (sending (.rduart 0) readBytes)) (sent [0xFF, 0x01, 0x79, 0xA0, 0x00, 0x00, 0x00, 0x00, 0xE6]) = true := by decide
theorem test_exec_cmdAbcOff :
    after (exec .cmdAbcOff (sending (.rduart 0) readBytes)) (sent [0xFF, 0x01, 0x79, 0x00, 0x00, 0x00, 0x00, 0x00, 0x86]) = true := by decide
theorem test_exec_cmdBg :
    after (exec .cmdBg (sending (.rduart 0) readBytes)) (sent [0xFF, 0x01, 0x87, 0x00, 0x00, 0x00, 0x00, 0x00, 0x78]) = true := by decide
theorem test_exec_cmdSpan :
    after (exec (.cmdSpan 2000) (sending (.rduart 0) readBytes)) (sent [0xFF, 0x01, 0x88, 0x07, 0xD0, 0x00, 0x00, 0x00, 0xA0]) = true := by decide

/-- R153(b): accepted. -/
theorem test_exec_resp_accepted :
    after (exec (.resp good) (at_ (some (.rduart 0)) .check 200000 0))
      (fun t => decide (t.ph = .flush) && decide (t.pend = .ok) && decide (t.lasttemp = 9999)) = true := by decide
/-- R148: the sentinel -3. -/
theorem test_exec_resp_mismatch :
    after (exec (.resp bad) (at_ (some (.rduart 0)) .check 200000 0))
      (fun t => decide (t.ph = .flush) && decide (t.pend = .checksumMismatch) && decide (t.lasttemp = -3)) = true := by decide
/-- R214: Ok(400), LASTTEMP = 27. -/
theorem test_exec_rduart_extract :
    after (exec (.rduart 0) { at_ (some (.rduart 0)) .extract 200000 0 with resp := good })
      (fun t => decide (t.results = [⟨.ok, 400⟩]) && decide (t.lasttemp = 27) && decide (t.ph = .idle)) = true := by decide
/-- R145, R146: five bytes are a short read. -/
theorem test_exec_rduart_short :
    after (exec (.rduart 0) { at_ (some (.rduart 0)) .read 200000 0 with rxq := [0xFF, 0x86, 0x01, 0xF4, 0x1E] })
      (fun t => decide (t.pend = .incomplete) && decide (t.resp = ⟨0xFF, 0x86, 0x01, 0xF4, 0x1E, 0, 0, 0, 0⟩) &&
        decide (t.rxq = [])) = true := by decide
/-- R193: a zero pulse is measured again. -/
theorem test_exec_rdpwm_zero :
    after (exec (.rdpwm 0) (at_ (some (.rdpwm 0)) .measure 0 0)) (fun t => decide (t.ph = .measure)) = true := by decide
/-- R192(b) and R80: th = 1 gives -2, on the port the tag 0 and 32 bits of two's complement. -/
theorem test_exec_rdpwm_scale :
    after (exec (.rdpwm 0) { at_ (some (.rdpwm 0)) .scale 0 0 with th := 1 })
      (fun t => decide (t.results.map ResultWord.onPort = [(0x0, 0xFFFFFFFE)])) = true := by decide
/-- R216: it succeeds in CoolingDown. -/
theorem test_exec_gettemp_cooling :
    after (exec (.gettemp 0) { at_ (some (.gettemp 0)) .gate 180100 180000 with lasttemp := 27 })
      (fun t => decide (t.results = [⟨.ok, 27⟩])) = true := by decide
/-- R216: NotReady while preheating. -/
theorem test_exec_gettemp_preheating :
    after (exec (.gettemp 0) (at_ (some (.gettemp 0)) .gate 179999 0))
      (fun t => decide (t.results = [⟨.notReady, 0⟩])) = true := by decide
/-- R121. -/
theorem test_exec_setabc_build :
    after (exec (.setabc true 0) (at_ (some (.setabc true 0)) .build 200000 0))
      (fun t => decide (t.cmd = ⟨0xFF, 0x01, 0x79, 0xA0, 0, 0, 0, 0, 0xE6⟩) && decide (t.ph = .send)) = true := by decide
/-- R261: the channel before the readiness. -/
theorem test_exec_setabc_no_channel :
    after (exec (.setabc true 0) { at_ (some (.setabc true 0)) .gate 0 0 with cfg := ⟨false, true⟩ })
      (fun t => decide (t.results = [⟨.serialNotConfigured, 0⟩])) = true := by decide
/-- R213: SETTLE is 100 ms, then (Ok, 0). -/
theorem test_exec_setbg_settle :
    after (exec (.setbg 0) (at_ (some (.setbg 0)) .settle 200000 200000))
      (fun t => decide (t.now = 200100) && decide (t.results = [⟨.ok, 0⟩])) = true := by decide
/-- R253: CoolingDown one unit before the interval ends. -/
theorem test_exec_setbg_cooling :
    after (exec (.setbg 0) (at_ (some (.setbg 0)) .gate 259999 200000))
      (fun t => decide (t.results = [⟨.notReady, 0⟩])) = true := by decide
/-- R254: the span before every other check. -/
theorem test_exec_setspan_bad :
    after (exec (.setspan 999) { at_ (some (.setspan 999)) .gate 0 0 with cfg := ⟨false, true⟩ })
      (fun t => decide (t.results = [⟨.badSpanValue, 0⟩])) = true := by decide
/-- R123: 2000 = 7 * 256 + 208. -/
theorem test_exec_setspan_build :
    after (exec (.setspan 2000) (at_ (some (.setspan 2000)) .build 200000 0))
      (fun t => decide (t.cmd = ⟨0xFF, 0x01, 0x88, 0x07, 0xD0, 0, 0, 0, 0xA0⟩)) = true := by decide
/-- R171: NOW = 179999 gives true. -/
theorem test_exec_ispre_true :
    after (exec (.ispre 0) (at_ (some (.ispre 0)) .gate 179999 0)) (fun t => decide (t.results = [⟨.ok, 1⟩])) = true := by decide
/-- R171: NOW = 180000 gives false. -/
theorem test_exec_ispre_false :
    after (exec (.ispre 0) (at_ (some (.ispre 0)) .gate 180000 0)) (fun t => decide (t.results = [⟨.ok, 0⟩])) = true := by decide
/-- R172: NOW = 259999, LASTREQ = 200000 gives false. -/
theorem test_exec_isrdy_false :
    after (exec (.isrdy 0) (at_ (some (.isrdy 0)) .gate 259999 200000)) (fun t => decide (t.results = [⟨.ok, 0⟩])) = true := by
  decide
/-- R172: NOW = 260000, LASTREQ = 200000 gives true. -/
theorem test_exec_isrdy_true :
    after (exec (.isrdy 0) (at_ (some (.isrdy 0)) .gate 260000 200000)) (fun t => decide (t.results = [⟨.ok, 1⟩])) = true := by
  decide
theorem test_exec_hcReserved0 : refuses (exec (.hcReserved0 5) (at_ none .idle 0 0)) (.reservedOpSel 0x0) = true := by decide
theorem test_exec_hcReserved9 : refuses (exec (.hcReserved9 5) (at_ none .idle 0 0)) (.reservedOpSel 0x9) = true := by decide
theorem test_exec_hcReservedA : refuses (exec (.hcReservedA 5) (at_ none .idle 0 0)) (.reservedOpSel 0xA) = true := by decide
theorem test_exec_hcReservedB : refuses (exec (.hcReservedB 5) (at_ none .idle 0 0)) (.reservedOpSel 0xB) = true := by decide
theorem test_exec_hcReservedC : refuses (exec (.hcReservedC 5) (at_ none .idle 0 0)) (.reservedOpSel 0xC) = true := by decide
theorem test_exec_hcReservedD : refuses (exec (.hcReservedD 5) (at_ none .idle 0 0)) (.reservedOpSel 0xD) = true := by decide
theorem test_exec_hcReservedE : refuses (exec (.hcReservedE 5) (at_ none .idle 0 0)) (.reservedOpSel 0xE) = true := by decide
theorem test_exec_hcReservedF : refuses (exec (.hcReservedF 5) (at_ none .idle 0 0)) (.reservedOpSel 0xF) = true := by decide
/-- A word of the table placed by `withFetchWord` is what the next step runs. -/
theorem test_withFetchWord :
    after (step ((at_ none .idle 0 0).withFetchWord 40 0x100000000))
        (fun t => decide (t.op = some (.rduart 0)) && decide (t.ph = .gate)) = true ∧
      after (step ((at_ none .idle 0 0).withFetchWord 72 0xFF0187000000000078)) (fun t => decide (t.ph = .settle)) = true ∧
      after (step ((at_ none .idle 0 0).withFetchWord 72 0)) (fun t => decide (t.pend = .ok)) = true := by decide

/-! ### For every obligation with hypotheses, values that meet them -/

theorem witness_DecodeOfEncodeIsTheInstruction :
    (Instr.cmdSpan 1000).wf = true ∧ (Instr.cmdSpan 5000).wf = true ∧ (Instr.setspan (-2147483648)).wf = true ∧
      (Instr.setabc true 1).wf = true := by decide

theorem witness_EncodeOfDecodeIsTheWord :
    decode (.cf readBytes) = .ok .cmdRead ∧ decode (.rf bad) = .ok (.resp bad) ∧
      decode (.hc 0x680000000) = .ok (.setspan (-2147483648)) := by decide

theorem witness_StatusTagsAndDefaultCodes : statusTag .ok = statusTag .ok ∧ Status.badSpanValue ≠ .ok := by decide

theorem witness_IntegerViewOfAResult : hasValue (.rduart 0) = true ∧ Status.noResponse ≠ .ok := by decide

/-- The sums 0x100, 0x101 and 0xFF. -/
theorem witness_ChecksumNegatesTheBodySum :
    (Frame.bodySum ⟨0xFF, 0x80, 0x80, 0, 0, 0, 0, 0, 0⟩) % 256 = 0 ∧ (Frame.bodySum ⟨0, 0x80, 0x81, 0, 0, 0, 0, 0, 0⟩) % 256 = 1 ∧
      (Frame.bodySum ⟨0, 0xFF, 0, 0, 0, 0, 0, 0, 0⟩) % 256 = 0xFF := by decide

theorem witness_ChecksumIgnoresStartAndItself : good.b8 = checksum good := by decide

theorem witness_SpanSplitsBigEndian : (1000 ≤ 1000 ∧ 1000 ≤ 5000) ∧ (1000 ≤ 5000 ∧ 5000 ≤ 5000) := by decide

theorem witness_SpanFrameBytes :
    (frameSpan 1000).b8 = 0x8C ∧ (frameSpan 5000).b8 = 0xDC ∧ 1000 ≤ 1000 ∧ 5000 ≤ 5000 := by decide

theorem witness_CommandFramesKeepFrameInvariant :
    (Instr.cmdSpan 5000).wf = true ∧ encode (.cmdSpan 5000) = .cf (frameSpan 5000) ∧ Instr.cmdRead.wf = true ∧
      encode .cmdRead = .cf readBytes := by decide

theorem witness_CommandFramesAreDistinct :
    Instr.cmdRead.wf = true ∧ encode .cmdRead = .cf readBytes ∧ decodeCF readBytes = .ok .cmdRead := by decide

theorem witness_PwmScalerIsExact : (1 : Int) ≤ 1 ∧ pwmDecode 1 < 0 := by decide

/-- Variant `v` with both channels, idle, at `now`. -/
def idleAt (v : Variant) (now : Nat) : State :=
  { at_ none .idle now 0 with variant := v }

theorem witness_PreheatingRule :
    (idleAt .A 0).variant = .A ∧ (idleAt .B 0).variant = .B ∧ (idleAt .U 0).variant = .U ∧
      paramsLegal (idleAt .A 0).params = true ∧ (idleAt .A 0).now = 0 ∧ isPreheating (idleAt .A 180000) = false := by decide

theorem witness_PreheatingRule_step : ∃ t, step (idleAt .A 180000) = .next t := by
  obtain ⟨t, h, _⟩ := next_of_after (step (idleAt .A 180000)) (fun _ => true) (by decide)
  exact ⟨t, h⟩

theorem witness_ReadyRule :
    isReady (at_ none .idle 260000 200000) = true ∧ isReady (at_ none .idle 259999 200000) = false ∧
      isPreheating (at_ none .idle 179999 0) = true := by decide

/-- One state in each of the three readiness states, at the boundaries. -/
theorem witness_ReadinessStates :
    Invariant (idleAt .A 179999) ∧ readiness (idleAt .A 179999) = .preHeating ∧ Invariant (at_ none .idle 259999 200000) ∧
      readiness (at_ none .idle 259999 200000) = .coolingDown ∧ Invariant (at_ none .idle 260000 200000) ∧
      readiness (at_ none .idle 260000 200000) = .ready ∧ timingOf ex .A = some ⟨180000, 60000⟩ := by
  refine ⟨?_, by decide, ?_, by decide, ?_, by decide, rfl⟩ <;> constructor <;> decide

/-- A construction with variant `v` and policy `p`. -/
def built (v : Variant) (p : VariantPolicy) : Construction :=
  ⟨v, ⟨true, true⟩, { ex with policy := p }, Frame.zero, Frame.zero, 0, 0, [0x12, 0xFF]⟩

theorem witness_UnknownVariantIsAlwaysReadyOrRefused :
    (idleAt .U 0).variant = .U ∧ (built .U .refuse).params.policy = .refuse ∧ (built .U .refuse).variant = .U ∧
      (built .U .permissive).params.policy = .permissive ∧ (built .A .refuse).variant ≠ .U := by decide

theorem witness_WarmupEndsInReady :
    paramsLegal ex = true ∧ timingOf ex .A = some ⟨180000, 60000⟩ ∧ (idleAt .A 180000).lastreq = 0 ∧
      (idleAt .A 179999).now < 180000 ∧ 180000 ≤ (idleAt .A 180000).now := by decide

theorem witness_ConstructionLeavesTheResetValues :
    constructionLegal (built .A .refuse) = true ∧ (built .A .refuse).variant ≠ .U ∧ (built .U .permissive).variant = .U := by
  decide

theorem witness_ConstructionMeetsInv :
    constructionLegal (built .A .refuse) = true ∧ constructionLegal (built .U .permissive) = true := by decide

/-- A state in phase SEND that meets the invariant. -/
theorem inv_sending : Invariant (sending (.rduart 0) readBytes) := by
  constructor <;> decide

/-- A state in phase EXTRACT that meets the invariant. -/
def extracting : State :=
  { at_ (some (.rduart 0)) .extract 200000 200000 with resp := good, txs := readBytes.toList }

theorem inv_extracting : Invariant extracting := by
  constructor <;> decide

/-- A state in phase SCALE that meets the invariant. -/
def scaling : State :=
  { at_ (some (.rdpwm 0)) .scale 0 0 with th := 1 }

theorem inv_scaling : Invariant scaling := by
  constructor <;> decide

theorem witness_StepKeepsInv :
    (Invariant (sending (.rduart 0) readBytes) ∧ ∃ t, step (sending (.rduart 0) readBytes) = .next t) ∧
      (Invariant scaling ∧ ∃ t, step scaling = .next t) := by
  obtain ⟨t, h, _⟩ := next_of_after (step (sending (.rduart 0) readBytes)) (fun _ => true) (by decide)
  obtain ⟨u, g, _⟩ := next_of_after (step scaling) (fun _ => true) (by decide)
  exact ⟨⟨inv_sending, t, h⟩, inv_scaling, u, g⟩

/-- A reserved op_sel at IDLE, the highest one issued and 0x0 forced, and a word presented while SEND is in progress: the
refusals. -/
theorem witness_StepStopsOnlyOnHostMisuse :
    (Invariant { idleAt .A 0 with host := [.issue 0xF00000000] } ∧
      refuses (step { idleAt .A 0 with host := [.issue 0xF00000000] }) (.reservedOpSel 0xF) = true) ∧
    (Invariant { idleAt .A 0 with host := [.force 0x000000001] } ∧
      refuses (step { idleAt .A 0 with host := [.force 0x000000001] }) (.reservedOpSel 0x0) = true) ∧
    (Invariant { sending (.rduart 0) readBytes with host := [.force 0x100000000] } ∧
      refuses (step { sending (.rduart 0) readBytes with host := [.force 0x100000000] }) .busy = true) := by
  refine ⟨⟨?_, by decide⟩, ⟨?_, by decide⟩, ?_, by decide⟩ <;> constructor <;> decide

theorem witness_StepRunsTheDecodedInstruction :
    decode (.hc 0x100000000) = .ok (.rduart 0) ∧ (sending (.rduart 0) readBytes).ph = .send ∧
      hostDutiful (sending (.rduart 0) readBytes) = true ∧
      decode (.cf (sending (.rduart 0) readBytes).cmd) = .ok .cmdRead ∧
      decode (.rf (at_ (some (.rduart 0)) .check 0 0).resp) = .ok (.resp Frame.zero) ∧
      (at_ (some (.rduart 0)) .check 0 0).ph = .check ∧ scaling.ph = .scale ∧ hostDutiful scaling = true ∧
      scaling.op = some (.rdpwm 0) := by decide

theorem witness_IdleStepLetsTimePass :
    (idleAt .A 0).ph = .idle ∧ (idleAt .A 0).host = [] ∧ ({ idleAt .A 0 with host := [.wait 5] } : State).host = .wait 5 :: [] ∧
      (idleAt .A 0).env = quiet :: List.replicate 15 quiet ∧ ({ idleAt .A 0 with env := [] } : State).env = [] :=
  ⟨rfl, rfl, rfl, rfl, rfl⟩

/-- One step in phase SEND: what the five statements about all steps rest on. -/
theorem witness_StepKeepsConfigurationAndTime :
    ∃ t, step (sending (.rduart 0) readBytes) = .next t ∧ t.txs = readBytes.toList := by
  obtain ⟨t, h, g⟩ := next_of_after (step (sending (.rduart 0) readBytes)) (fun t => decide (t.txs = readBytes.toList)) (by decide)
  exact ⟨t, h, of_decide_eq_true g⟩

theorem witness_LastreqIsStampedBySendOnly :
    (∃ t, step (sending (.rduart 0) readBytes) = .next t) ∧ (∃ t, step scaling = .next t ∧ scaling.ph ≠ .send) := by
  obtain ⟨t, h, _⟩ := next_of_after (step (sending (.rduart 0) readBytes)) (fun _ => true) (by decide)
  obtain ⟨u, g, _⟩ := next_of_after (step scaling) (fun _ => true) (by decide)
  exact ⟨⟨t, h⟩, u, g, by decide⟩

theorem witness_LasttempHasTwoWriters : ∃ t, step extracting = .next t ∧ t.lasttemp = 27 := by
  obtain ⟨t, h, g⟩ := next_of_after (step extracting) (fun t => decide (t.lasttemp = 27)) (by decide)
  exact ⟨t, h, of_decide_eq_true g⟩

theorem witness_TransmissionsAreSpaced :
    Invariant (sending (.rduart 0) readBytes) ∧ timingOf ex .A = some ⟨180000, 60000⟩ ∧
      ∃ t, step (sending (.rduart 0) readBytes) = .next t ∧ t.txs ≠ (sending (.rduart 0) readBytes).txs := by
  obtain ⟨t, h, g⟩ := next_of_after (step (sending (.rduart 0) readBytes)) (fun t => decide (t.txs ≠ [])) (by decide)
  exact ⟨inv_sending, rfl, t, h, of_decide_eq_true g⟩

theorem witness_OneResultWordPerOperation :
    Invariant extracting ∧ ∃ t, step extracting = .next t ∧ t.results = extracting.results ++ [⟨.ok, 400⟩] := by
  obtain ⟨t, h, g⟩ := next_of_after (step extracting) (fun t => decide (t.results = [⟨.ok, 400⟩])) (by decide)
  exact ⟨inv_extracting, t, h, of_decide_eq_true g⟩

/-- A result from each phase that delivers a success: the smallest values of SCALE and GETTEMP, ppm, a predicate, and the
(Ok, 0) of a set operation. -/
theorem witness_ResultValuesFitThePort :
    (Invariant scaling ∧ ∃ t, step scaling = .next t ∧ t.results = scaling.results ++ [⟨.ok, -2⟩]) ∧
      (Invariant extracting ∧ ∃ t, step extracting = .next t ∧ t.results = extracting.results ++ [⟨.ok, 400⟩]) ∧
      (∀ i ∈ [Instr.gettemp 0, .ispre 0, .isrdy 0], Invariant { at_ (some i) .gate 180000 0 with lasttemp := -40 } ∧
        ∃ t r, step { at_ (some i) .gate 180000 0 with lasttemp := -40 } = .next t ∧ t.results = [] ++ [r] ∧ r.st = .ok) ∧
      (Invariant (at_ (some (.setbg 0)) .settle 200000 200000) ∧
        ∃ t, step (at_ (some (.setbg 0)) .settle 200000 200000) = .next t ∧ t.results = [] ++ [⟨.ok, 0⟩]) ∧
      ex.pwmTimeout ≤ 1073000 ∧ -(2 ^ 31) ≤ ex.codes.checksumMismatch ∧ -(2 ^ 31) ≤ ex.lasttempReset ∧
      ex.lasttempReset < 2 ^ 31 := by
  obtain ⟨t, h, g⟩ := next_of_after (step scaling) (fun t => decide (t.results = [⟨.ok, -2⟩])) (by decide)
  obtain ⟨u, k, l⟩ := next_of_after (step extracting) (fun t => decide (t.results = [⟨.ok, 400⟩])) (by decide)
  obtain ⟨v, m, n⟩ := next_of_after (step (at_ (some (.setbg 0)) .settle 200000 200000))
    (fun t => decide (t.results = [⟨.ok, 0⟩])) (by decide)
  refine ⟨⟨inv_scaling, t, h, of_decide_eq_true g⟩, ⟨inv_extracting, u, k, of_decide_eq_true l⟩, ?_,
    ⟨by constructor <;> decide, v, m, of_decide_eq_true n⟩, by decide, by decide, by decide, by decide⟩
  intro i hi
  simp only [List.mem_cons, List.not_mem_nil, or_false] at hi
  obtain rfl | rfl | rfl := hi <;> refine ⟨by constructor <;> decide, ?_⟩
  · obtain ⟨t, h, g⟩ := next_of_after (step { at_ (some (.gettemp 0)) .gate 180000 0 with lasttemp := -40 })
      (fun t => decide (t.results = [⟨.ok, -40⟩])) (by decide)
    exact ⟨t, _, h, of_decide_eq_true g, rfl⟩
  · obtain ⟨t, h, g⟩ := next_of_after (step { at_ (some (.ispre 0)) .gate 180000 0 with lasttemp := -40 })
      (fun t => decide (t.results = [⟨.ok, 0⟩])) (by decide)
    exact ⟨t, _, h, of_decide_eq_true g, rfl⟩
  · obtain ⟨t, h, g⟩ := next_of_after (step { at_ (some (.isrdy 0)) .gate 180000 0 with lasttemp := -40 })
      (fun t => decide (t.results = [⟨.ok, 1⟩])) (by decide)
    exact ⟨t, _, h, of_decide_eq_true g, rfl⟩

/-- A next state from each of the six phases, with an empty queue, a stray byte and a frame in it. -/
theorem witness_EveryParsePathFlushesOnce :
    ∀ p ∈ [Phase.wait, .resync, .read, .check, .flush, .extract], ∀ q ∈ [[], [0xFE], good.toList],
      ∃ t, step { at_ (some (.rduart 0)) p 200000 200000 with rxq := q } = .next t := by
  intro p hp q hq
  obtain ⟨t, h, _⟩ := next_of_after (step { at_ (some (.rduart 0)) p 200000 200000 with rxq := q }) (fun _ => true)
    (by revert p q; decide)
  exact ⟨t, h⟩

theorem witness_ReservedOpSelIsRefused :
    ((0x900000000 : HCWord).extractLsb' 32 4 = 0 ∨ 9 ≤ ((0x900000000 : HCWord).extractLsb' 32 4).toNat) ∧
      ((0x0FFFFFFFF : HCWord).extractLsb' 32 4 = 0 ∨ 9 ≤ ((0x0FFFFFFFF : HCWord).extractLsb' 32 4).toNat) ∧
      (idleAt .A 0).ph = .idle := by decide

theorem witness_OperationWhileBusyIsRefused :
    scaling.ph ≠ .idle ∧ ({ scaling with host := [.force 0x100000000] } : State).host = .force 0x100000000 :: [] ∧
      scaling.op ≠ some (.rduart 0) := by decide

theorem witness_CommandFrameIsTransmittedAndStamped :
    (sending (.rduart 0) readBytes).ph = .send ∧ 1000 ≤ 1000 ∧ 5000 ≤ 5000 := by decide

theorem witness_TransmissionEntersCoolingDown :
    Invariant (sending (.rduart 0) readBytes) ∧ (sending (.rduart 0) readBytes).ph = .send ∧
      timingOf ex .A = some ⟨180000, 60000⟩ ∧ ∃ t, exec .cmdRead (sending (.rduart 0) readBytes) = .next t := by
  obtain ⟨t, h, _⟩ := next_of_after (exec .cmdRead (sending (.rduart 0) readBytes)) (fun _ => true) (by decide)
  exact ⟨inv_sending, rfl, rfl, t, h⟩

theorem witness_ResponseIsAcceptedByChecksumAlone :
    (at_ (some (.rduart 0)) .check 0 0).ph = .check ∧ good.b8.toNat = (0x100 - good.bodySum % 256) % 256 ∧
      bad.b8.toNat ≠ (0x100 - bad.bodySum % 256) % 256 := by decide

/-- `good` with a status byte, a byte 1 and a checksum of its own. -/
theorem witness_SensorStatusByteHasNoEffect :
    running (.rduart 0) .extract extracting ∧ good.b2 = (⟨0xFF, 0x00, 0x01, 0x90, 0x43, 0x40, 0, 0, 0xEC⟩ : Frame).b2 ∧
      good.b3 = (⟨0xFF, 0x00, 0x01, 0x90, 0x43, 0x40, 0, 0, 0xEC⟩ : Frame).b3 ∧
      good.b4 = (⟨0xFF, 0x00, 0x01, 0x90, 0x43, 0x40, 0, 0, 0xEC⟩ : Frame).b4 :=
  ⟨⟨rfl, rfl⟩, rfl, rfl, rfl⟩

theorem witness_EveryOperationStartsAtGate : (idleAt .A 0).ph = .idle := by decide

/-- The three clauses: no channel, CoolingDown one unit before the interval ends, Ready at its end. -/
theorem witness_SerialGatesInOrder :
    running (.rduart 0) .gate (at_ (some (.rduart 0)) .gate 260000 200000) ∧
      ({ at_ (some (.rduart 0)) .gate 260000 200000 with cfg := ⟨false, true⟩ } : State).cfg.ser = false ∧
      readiness (at_ (some (.rduart 0)) .gate 259999 200000) ≠ .ready ∧
      readiness (at_ (some (.rduart 0)) .gate 260000 200000) = .ready :=
  ⟨⟨rfl, rfl⟩, by decide, by decide, by decide⟩

theorem witness_SetspanGatesInOrder :
    running (.setspan 999) .gate (at_ (some (.setspan 999)) .gate 0 0) ∧ ((999 : Int) < 1000 ∨ (5000 : Int) < 999) ∧
      ((5001 : Int) < 1000 ∨ (5000 : Int) < 5001) ∧
      running (.setspan 1000) .gate (at_ (some (.setspan 1000)) .gate 260000 200000) ∧
      readiness (at_ (some (.setspan 1000)) .gate 260000 200000) = .ready ∧
      running (.setspan 5000) .gate (at_ (some (.setspan 5000)) .gate 259999 200000) ∧
      readiness (at_ (some (.setspan 5000)) .gate 259999 200000) ≠ .ready :=
  ⟨⟨rfl, rfl⟩, by decide, by decide, ⟨rfl, rfl⟩, by decide, ⟨rfl, rfl⟩, by decide⟩

theorem witness_GettempReturnsTheCache :
    running (.gettemp 0) .gate (at_ (some (.gettemp 0)) .gate 180000 180000) ∧
      readiness (at_ (some (.gettemp 0)) .gate 180000 180000) ≠ .preHeating ∧
      readiness (at_ (some (.gettemp 0)) .gate 179999 0) = .preHeating ∧
      -(2 ^ 31) ≤ (at_ (some (.gettemp 0)) .gate 180000 180000).lasttemp ∧
      (at_ (some (.gettemp 0)) .gate 180000 180000).lasttemp < 2 ^ 31 :=
  ⟨⟨rfl, rfl⟩, by decide, by decide, by decide, by decide⟩

theorem witness_IspreReturnsPreheating :
    running (.ispre 0) .gate (at_ (some (.ispre 0)) .gate 179999 0) ∧
      isPreheating (at_ (some (.ispre 0)) .gate 179999 0) = true ∧
      isPreheating (at_ (some (.ispre 0)) .gate 180000 0) = false ∧ (idleAt .A 0).ph = .idle :=
  ⟨⟨rfl, rfl⟩, by decide, by decide, rfl⟩

theorem witness_IsrdyReturnsReady :
    running (.isrdy 0) .gate (at_ (some (.isrdy 0)) .gate 260000 200000) ∧
      isReady (at_ (some (.isrdy 0)) .gate 260000 200000) = true ∧
      isReady (at_ (some (.isrdy 0)) .gate 259999 200000) = false ∧ (idleAt .A 0).ph = .idle :=
  ⟨⟨rfl, rfl⟩, by decide, by decide, rfl⟩

theorem witness_BuildersFillCmd :
    running (.rduart 0) .build (at_ (some (.rduart 0)) .build 200000 0) ∧
      running (.setabc true 0) .build (at_ (some (.setabc true 0)) .build 200000 0) ∧
      running (.setabc false 0) .build (at_ (some (.setabc false 0)) .build 200000 0) ∧
      running (.setbg 0) .build (at_ (some (.setbg 0)) .build 200000 0) ∧
      running (.setspan 1000) .build (at_ (some (.setspan 1000)) .build 200000 0) ∧
      running (.setspan 5000) .build (at_ (some (.setspan 5000)) .build 200000 0) :=
  ⟨⟨rfl, rfl⟩, ⟨rfl, rfl⟩, ⟨rfl, rfl⟩, ⟨rfl, rfl⟩, ⟨rfl, rfl⟩, rfl, rfl⟩

theorem witness_OperationSendsTheFrameInCmd :
    running (.rduart 0) .send (sending (.rduart 0) readBytes) ∧
      frameOf (.rduart 0) = some (sending (.rduart 0) readBytes).cmd ∧
      decode (.cf (sending (.rduart 0) readBytes).cmd) = .ok .cmdRead :=
  ⟨⟨rfl, rfl⟩, by decide, by decide⟩

theorem witness_SettleDelayThenGoOn :
    running (.setbg 0) .settle (at_ (some (.setbg 0)) .settle 200000 200000) ∧
      running (.rduart 0) .settle (at_ (some (.rduart 0)) .settle 200000 200000) :=
  ⟨⟨rfl, rfl⟩, rfl, rfl⟩

/-- RDUART in phase `p` with these bytes queued and this poll counter. -/
def reading (p : Phase) (rxq : List Byte) (k : Nat) : State :=
  { at_ (some (.rduart 0)) p 200100 200000 with rxq := rxq, k := k }

theorem witness_WaitLoopSamplesAndSleeps :
    running (.rduart 0) .wait (reading .wait [] 9) ∧ (reading .wait [0x00] 0).rxq ≠ [] ∧ (reading .wait [] 9).rxq = [] ∧
      (reading .wait [] 9).k ≠ 10 ∧ (reading .wait [] 10).k = 10 :=
  ⟨⟨rfl, rfl⟩, by decide, rfl, by decide, rfl⟩

theorem witness_ScanDiscardsToTheMarker :
    running (.rduart 0) .resync (reading .resync [0xFE, 0xFF] 0) ∧ (reading .resync [0xFE, 0xFF] 0).rxq = 0xFE :: [0xFF] ∧
      (0xFE : Byte) ≠ 0xFF ∧ (reading .resync [0xFF] 0).rxq = 0xFF :: [] ∧ (reading .resync [] 0).rxq = [] :=
  ⟨⟨rfl, rfl⟩, rfl, by decide, rfl, rfl⟩

theorem witness_ReadTakesNineBytesOrFails :
    running (.rduart 0) .read (reading .read good.toList 0) ∧ (reading .read good.toList 0).rxq ≠ [] ∧
      (reading .read [] 0).rxq = [] ∧ (reading .read [0xFF] 0).rxq ≠ [] :=
  ⟨⟨rfl, rfl⟩, by decide, rfl, by decide⟩

theorem witness_FlushAndExtractEndTheRead :
    running (.rduart 0) .flush { reading .flush [] 0 with pend := .incomplete } ∧ Status.incomplete ≠ .ok ∧
      running (.rduart 0) .flush (reading .flush [] 0) ∧ (reading .flush [] 0).pend = .ok ∧
      running (.rduart 0) .extract extracting :=
  ⟨⟨rfl, rfl⟩, by decide, ⟨rfl, rfl⟩, rfl, rfl, rfl⟩

/-- The pulses 5000 (PWM_TIMEOUT itself) and 0. -/
theorem witness_RdpwmMeasuresAndScales :
    running (.rdpwm 0) .gate (at_ (some (.rdpwm 0)) .gate 0 0) ∧ (at_ (some (.rdpwm 0)) .gate 0 0).cfg.pwm = true ∧
      ({ at_ (some (.rdpwm 0)) .gate 0 0 with cfg := ⟨true, false⟩ } : State).cfg.pwm = false ∧
      running (.rdpwm 0) .measure (at_ (some (.rdpwm 0)) .measure 0 0) ∧ ex.pwmLevel = .high ∧
      ({ at_ (some (.rdpwm 0)) .measure 0 0 with env := [{ quiet with pulseHigh := 5000 }] } : State).act.pulseHigh ≤ ex.pwmTimeout ∧
      running (.rdpwm 0) .scale scaling ∧ (scaling.th : Int) ≤ 1073741825 :=
  ⟨⟨rfl, rfl⟩, rfl, rfl, ⟨rfl, rfl⟩, rfl, by decide, ⟨rfl, rfl⟩, by decide⟩

/-- The host issues SETSPAN(5000) at the end of CoolingDown. -/
def setting : State :=
  { at_ none .idle 260000 200000 with host := [.issue 0x600001388] }

theorem witness_SetOperationCompletes :
    frameOf (.setspan 5000) = some (frameSpan 5000) ∧ setting.ph = .idle ∧ setting.host = .issue 0x600001388 :: [] ∧
      decode (.hc 0x600001388) = .ok (.setspan 5000) ∧ (∀ w' l, ([] : List HostLine) ≠ .force w' :: l) ∧
      setting.cfg.ser = true ∧ readiness setting = .ready :=
  ⟨by decide, rfl, rfl, by decide, by simp, rfl, by decide⟩

theorem witness_StrayBytesAreDiscardedAndFrameDecoded :
    running (.rduart 0) .resync (reading .resync ([0x12, 0x34] ++ good.toList ++ [0xAA]) 0) ∧
      (∀ b ∈ ([0x12, 0x34] : List Byte), b ≠ 0xFF) ∧ good.b0 = 0xFF ∧ good.b8 = checksum good ∧
      hostDutiful (reading .resync ([0x12, 0x34] ++ good.toList ++ [0xAA]) 0) = true :=
  ⟨⟨rfl, rfl⟩, by decide, rfl, by decide, rfl⟩

theorem witness_NoResponseAfterTenSleeps :
    running (.rduart 0) .wait (reading .wait [] 0) ∧ (reading .wait [] 0).k = 0 ∧ (reading .wait [] 0).rxq = [] ∧
      hostDutiful (reading .wait [] 0) = true ∧
      (reading .wait [] 0).env = List.replicate 10 quiet ++ quiet :: quiet :: List.replicate 4 quiet ∧
      (List.replicate 10 quiet).length = 10 ∧ (∀ x ∈ List.replicate 10 quiet, x.arrive = [] ∧ x.rx = []) :=
  ⟨⟨rfl, rfl⟩, rfl, rfl, rfl, rfl, rfl, by decide⟩

/-- RDUART about to validate the frame `bad`. -/
def checking : State :=
  { reading .check [] 0 with resp := bad }

theorem witness_MismatchInvalidatesTheCache :
    running (.rduart 0) .check checking ∧ checking.resp.b8 ≠ checksum checking.resp ∧ hostDutiful checking = true ∧
      checking.env = quiet :: quiet :: List.replicate 14 quiet ∧
      ∃ t, step extracting = .next t ∧ t.lasttemp ≠ extracting.lasttemp := by
  obtain ⟨t, h, g⟩ := next_of_after (step extracting) (fun t => decide (t.lasttemp ≠ 9999)) (by decide)
  exact ⟨⟨rfl, rfl⟩, by decide, rfl, rfl, t, h, of_decide_eq_true g⟩

theorem witness_RdpwmDivergesOnZeroPulses :
    running (.rdpwm 0) .measure (at_ (some (.rdpwm 0)) .measure 0 0) ∧
      hostDutiful (at_ (some (.rdpwm 0)) .measure 0 0) = true ∧ 16 ≤ (at_ (some (.rdpwm 0)) .measure 0 0).env.length ∧
      (∀ x ∈ (at_ (some (.rdpwm 0)) .measure 0 0).env.take 16, x.pulseHigh = 0 ∧ x.pulseLow = 0) :=
  ⟨⟨rfl, rfl⟩, rfl, by decide, by decide⟩

/-- Three acts that append one byte 0x00 each. -/
def feeding : State :=
  { reading .resync [0x00] 0 with env := List.replicate 3 { quiet with rx := [0x00] } }

theorem witness_ScanDivergesWhileFed :
    running (.rduart 0) .resync feeding ∧ hostDutiful feeding = true ∧ feeding.rxq ≠ [] ∧ (∀ b ∈ feeding.rxq, b ≠ 0xFF) ∧
      3 ≤ feeding.env.length ∧ (∀ x ∈ feeding.env.take 3, ∃ b, x.rx = [b] ∧ b ≠ 0xFF) := by
  refine ⟨⟨rfl, rfl⟩, rfl, by decide, by decide, by decide, ?_⟩
  intro x hx
  simp only [feeding, List.take_replicate, List.mem_replicate] at hx
  exact ⟨0x00, by rw [hx.2], by decide⟩

end Sys2Proof.Tests
end

section
/-! PROOFS. The encoding family (spec/30_encoding.md): the span immediate of CMD_SPAN and the fields of a response. -/

namespace Sys2Proof.Machine

/-- The high byte of an accepted span is 3 to 19: 1000 and 5000 divided by 256 (R87). -/
theorem frameSpan_b3_bounds (n : Nat) (h1 : 1000 ≤ n) (h2 : n ≤ 5000) :
    3 ≤ (frameSpan n).b3.toNat ∧ (frameSpan n).b3.toNat ≤ 19 := by
  rw [frameSpan_b3 n h2]
  omega

/-- Settles O9: the bytes are `frameSpan_b3` and `frameSpan_b4`, put together again they are `Frame.spanValue`. -/
theorem spanSplitsBigEndian : Obligations.SpanSplitsBigEndian := by
  refine ⟨fun n h1 h2 => ?_, rfl, rfl⟩
  obtain ⟨hlo, hhi⟩ := frameSpan_b3_bounds n h1 h2
  exact ⟨frameSpan_b3 n h2, frameSpan_b4 n, (frameSpan_spanValue n h2).symm, hlo, hhi, by omega⟩

/-- ppm is the 16-bit word of bytes 2 and 3, unsigned (R89). -/
theorem ppm_eq_toNat_append (r : Frame) : r.ppm = ((r.b2 ++ r.b3 : BitVec 16).toNat : Int) := by
  have h : (r.b2 ++ r.b3 : BitVec 16).toNat = r.b2.toNat * 2 ^ 8 + r.b3.toNat := toNat_append_eq 8 8 r.b2 r.b3
  rw [h, Frame.ppm]
  omega

theorem temperature_eq (r : Frame) : r.temperature = (r.b4.toNat : Int) - 40 := rfl

theorem temperature_bounds (r : Frame) : -40 ≤ r.temperature ∧ r.temperature ≤ 215 := by
  have hb : r.b4.toNat < 256 := r.b4.isLt
  rw [temperature_eq]
  omega

theorem sensorStatus_toNat_le (r : Frame) : r.sensorStatus.toNat ≤ 255 :=
  Nat.le_of_lt_succ r.b5.isLt

/-- Settles O13: each field by its lemma; no clause needs the frame to be accepted. -/
theorem responseFieldsAndRanges : Obligations.ResponseFieldsAndRanges := by
  intro r
  obtain ⟨hppm0, hppm1⟩ := ppm_bounds r
  obtain ⟨htemp0, htemp1⟩ := temperature_bounds r
  exact ⟨rfl, hppm0, hppm1, ppm_eq_toNat_append r, temperature_eq r, htemp0, htemp1, rfl, sensorStatus_toNat_le r⟩

end Sys2Proof.Machine
end

section
/-! PROOFS. The checksum family (spec/40_checksum.md): what CHECKSUM depends on. -/

namespace Sys2Proof.Machine

/-- The body sum is over bytes 1 to 7: the start marker and the checksum byte are not in it (R110). -/
theorem bodySum_with_b0_b8 (f : Frame) (x y : Byte) : { f with b0 := x, b8 := y }.bodySum = f.bodySum := rfl

/-- CHECKSUM depends on a frame through its body sum alone (R110). -/
theorem checksum_eq_of_bodySum_eq {f g : Frame} (h : f.bodySum = g.bodySum) : checksum f = checksum g := by
  rw [checksum, checksum, h]

theorem checksum_with_b0_b8 (f : Frame) (x y : Byte) : checksum { f with b0 := x, b8 := y } = checksum f :=
  checksum_eq_of_bodySum_eq (bodySum_with_b0_b8 f x y)

/-- Settles O8: `checksum_with_b0_b8`; writing the checksum into byte 8 is the case that keeps byte 0. -/
theorem checksumIgnoresStartAndItself : Obligations.ChecksumIgnoresStartAndItself := by
  refine ⟨checksum_with_b0_b8, fun f hf => ?_⟩
  calc checksum { f with b8 := checksum f }
    _ = checksum f := checksum_with_b0_b8 f f.b0 (checksum f)
    _ = f.b8 := hf.symm

end Sys2Proof.Machine
end

section
/-! PROOFS. The response-parse family (spec/42_frame_parse.md): one iteration of the RESYNC scan. -/

namespace Sys2Proof.Machine

/-- In phase RESYNC of RDUART the instruction runs one iteration of the scan (R143, R214). -/
theorem exec_rduart_resync {a : BitVec 32} {s : State} (h : running (.rduart a) .resync s) :
    exec (.rduart a) s = resyncLine s := by
  obtain ⟨hph, hop⟩ := h
  have hidle : s.ph ≠ .idle := by simp [hph]
  calc exec (.rduart a) s
    _ = execRduart a s := rfl
    _ = resyncLine s := by rw [execRduart, hostOp_running _ _ _ hidle hop, hph]

/-- Exit E2 of the scan (R143). -/
theorem resyncLine_of_empty {s : State} (hq : s.rxq = []) : resyncLine s = .next (goto .read s) := by
  obtain ⟨_, he⟩ | ⟨rest, hr, _⟩ | ⟨b, rest, hr, _, _⟩ := resyncLine_cases s
  · exact he
  · simp [hq] at hr
  · simp [hq] at hr

/-- Exit E1 of the scan: the marker stays the oldest byte (R143). -/
theorem resyncLine_of_marker {s : State} {rest : List Byte} (hq : s.rxq = 0xFF :: rest) :
    resyncLine s = .next (goto .read s) := by
  obtain ⟨_, he⟩ | ⟨_, _, he⟩ | ⟨b, rest', hr, hb, _⟩ := resyncLine_cases s
  · exact he
  · exact he
  · obtain ⟨hhead, _⟩ := List.cons.inj (hq.symm.trans hr)
    exact absurd hhead.symm hb

/-- The scan goes on past a byte that is no marker (R143). -/
theorem resyncLine_of_stray {s : State} {b : Byte} {rest : List Byte} (hq : s.rxq = b :: rest) (hb : b ≠ 0xFF) :
    resyncLine s = .next { s with rxq := rest } := by
  obtain ⟨hr, _⟩ | ⟨rest', hr, _⟩ | ⟨b', rest', hr, _, he⟩ := resyncLine_cases s
  · simp [hq] at hr
  · obtain ⟨hhead, _⟩ := List.cons.inj (hq.symm.trans hr)
    exact absurd hhead hb
  · obtain ⟨_, rfl⟩ := List.cons.inj (hq.symm.trans hr)
    exact he

/-- Settles O51: the step is one iteration of the scan, which has the two exits E1 and E2 and the discard. -/
theorem scanDiscardsToTheMarker : Obligations.ScanDiscardsToTheMarker := by
  intro a s h
  rw [exec_rduart_resync h]
  refine ⟨resyncLine_of_empty, ?_, fun b rest => resyncLine_of_stray⟩
  rintro b rest hq rfl
  exact resyncLine_of_marker hq

end Sys2Proof.Machine
end

section
/-! PROOFS. What every step keeps: the straps and the open parameters stay, NOW never decreases (R27, R28, R29, R31). -/

namespace Sys2Proof.Machine

/-- `t` may stand after `s` in a run, as far as the configuration and NOW tell. -/
structure Later (s t : State) : Prop where
  /-- VARIANT is latched (R27) -/
  variant : t.variant = s.variant
  /-- CFG is latched (R28) -/
  cfg : t.cfg = s.cfg
  /-- no rule writes an open parameter (R31) -/
  params : t.params = s.params
  /-- NOW does not decrease and does not wrap (R29) -/
  now : s.now ≤ t.now

theorem Later.of_now_eq {s t : State} (hv : t.variant = s.variant) (hc : t.cfg = s.cfg) (hp : t.params = s.params)
    (hn : t.now = s.now) : Later s t :=
  ⟨hv, hc, hp, hn.ge⟩

theorem Later.of_now_add {s t : State} (d : Nat) (hv : t.variant = s.variant) (hc : t.cfg = s.cfg)
    (hp : t.params = s.params) (hn : t.now = s.now + d) : Later s t :=
  ⟨hv, hc, hp, by omega⟩

theorem Later.trans {s t u : State} (h : Later s t) (h' : Later t u) : Later s u :=
  ⟨h'.variant.trans h.variant, h'.cfg.trans h.cfg, h'.params.trans h.params, h.now.trans h'.now⟩

theorem environment_later (s : State) : Later s (environment s) :=
  .of_now_add s.act.dt rfl rfl rfl rfl

theorem waitLine_later (s : State) : Later s (waitLine s) := by
  obtain ⟨_, _, he⟩ | ⟨_, _, he⟩ | ⟨_, he⟩ := waitLine_cases s <;> rw [he]
  · exact .of_now_eq rfl rfl rfl rfl
  · exact .of_now_add (s.params.pollStep + s.act.delay) rfl rfl rfl rfl
  · exact .of_now_eq rfl rfl rfl rfl

theorem readLine_later (s : State) : Later s (readLine s) := by
  obtain ⟨_, he⟩ | ⟨_, u, rfl, ⟨_, he⟩ | ⟨_, he⟩⟩ := readLine_cases s <;> rw [he]
  · exact .of_now_eq rfl rfl rfl rfl
  · exact .of_now_add (min s.act.delay s.params.readnTimeout) rfl rfl rfl rfl
  · exact .of_now_add (min s.act.delay s.params.readnTimeout) rfl rfl rfl rfl

theorem checkLine_later (r : Frame) (s : State) : Later s (checkLine r s) := by
  obtain ⟨_, he⟩ | ⟨_, he⟩ := checkLine_cases r s <;> rw [he] <;> exact .of_now_eq rfl rfl rfl rfl

theorem flushLine_later (s : State) : Later s (flushLine s) := by
  by_cases h : s.pend = .ok
  · rw [flushLine_ok s h]
    exact .of_now_eq rfl rfl rfl rfl
  · rw [flushLine_failed s h]
    exact .of_now_eq rfl rfl rfl rfl

theorem measureLine_later (s : State) : Later s (measureLine s) := by
  obtain ⟨_, _, ⟨_, he⟩ | ⟨_, he⟩⟩ := measureLine_cases s <;> rw [he] <;>
    exact .of_now_add s.act.delay rfl rfl rfl rfl

/-- Of the lines of the pseudocode, those that call `TxWrite`, `Sleep`, `RxReadN` or `Pulse` let time pass (R63). -/
theorem Line.later {i : Instr} {s t : State} (h : Line i s t) : Later s t := by
  cases h with
  | send => exact .of_now_add s.act.delay rfl rfl rfl rfl
  | settleSet => exact .of_now_add (Config.settle + s.act.delay) rfl rfl rfl rfl
  | settleRead => exact .of_now_add (Config.settle + s.act.delay) rfl rfl rfl rfl
  | wait => exact waitLine_later s
  | read => exact readLine_later s
  | check r => exact checkLine_later r s
  | flush => exact flushLine_later s
  | measure => exact measureLine_later s
  | accept | fail | toBuild | answer | toMeasure | build | buildFail | resyncEnd | resyncPop | extract | scale =>
    exact .of_now_eq rfl rfl rfl rfl

/-- Of the fetches, only the host's `WAIT(d)` lets time pass (R101). -/
theorem fetch_later {s u : State} {o : Option Instr} (h : fetch s = .next (o, u)) : Later s u := by
  obtain ⟨_, ⟨_, _, _, _, rfl⟩ | ⟨d, _, _, _, rfl⟩ | ⟨_, _, rfl⟩⟩ | ⟨_, rfl, _⟩ | ⟨_, rfl, _⟩ | ⟨_, _, _, rfl, _⟩ :=
    fetch_next s u o h
  case inl.inr.inl => exact .of_now_add (d + s.act.delay) rfl rfl rfl rfl
  all_goals exact .of_now_eq rfl rfl rfl rfl

theorem step_later {s t : State} (h : step s = .next t) : Later s t := by
  obtain ⟨i, u, v, hf, he, rfl⟩ | ⟨u, hf, rfl⟩ := step_next s t h
  · exact ((fetch_later hf).trans (exec_line i u v he).later).trans (environment_later v)
  · exact (fetch_later hf).trans (environment_later u)

end Sys2Proof.Machine
end

section
/-! PROOFS. The readiness family (spec/43_readiness.md): IS_PREHEATING, IS_READY and the readiness state, each said once
for a variant that has a timing record and once for one that has none. -/

namespace Sys2Proof.Machine

/-! ### The timing record -/

@[simp] theorem timingOf_A (p : Params) : timingOf p .A = some p.timingA := rfl
@[simp] theorem timingOf_B (p : Params) : timingOf p .B = some p.timingB := rfl
@[simp] theorem timingOf_U (p : Params) : timingOf p .U = none := rfl

theorem exists_timingOf (p : Params) {v : Variant} (h : v ≠ .U) : ∃ tm, timingOf p v = some tm := by
  cases v with
  | A => exact ⟨_, rfl⟩
  | B => exact ⟨_, rfl⟩
  | U => exact absurd rfl h

theorem timingLegal_iff (tm : Timing) : timingLegal tm = true ↔ 0 < tm.minInterval ∧ tm.minInterval ≤ tm.warmup := by
  simp [timingLegal]

/-- The record of a known variant is legal where the parameters are (R176, R291). -/
theorem timingLegal_of_timingOf {p : Params} {v : Variant} {tm : Timing} (hp : paramsLegal p = true)
    (ht : timingOf p v = some tm) : timingLegal tm = true := by
  simp only [paramsLegal, Bool.and_eq_true] at hp
  obtain ⟨⟨⟨⟨hA, hB⟩, _⟩, _⟩, _⟩ := hp
  cases v with
  | A => cases ht; exact hA
  | B => cases ht; exact hB
  | U => cases ht

/-! ### A known variant -/

section
variable {s : State} {tm : Timing} (ht : timingOf s.params s.variant = some tm)
include ht

theorem isPreheating_iff_of_timing : isPreheating s = true ↔ s.now < tm.warmup := by
  simp [isPreheating, ht]

theorem isReady_iff_of_timing :
    isReady s = true ↔ ¬ s.now < tm.warmup ∧ ¬ (s.now : Int) - s.lastreq < tm.minInterval := by
  simp [isReady, intervalElapsed, ht, ← isPreheating_iff_of_timing ht]

/-- The three cases of R170. -/
theorem readiness_cases_of_timing :
    (s.now < tm.warmup ∧ readiness s = .preHeating) ∨
    (¬ s.now < tm.warmup ∧ (s.now : Int) - s.lastreq < tm.minInterval ∧ readiness s = .coolingDown) ∨
    (¬ s.now < tm.warmup ∧ ¬ (s.now : Int) - s.lastreq < tm.minInterval ∧ readiness s = .ready) := by
  simp only [readiness, ht]
  by_cases hw : s.now < tm.warmup
  · exact .inl ⟨hw, if_pos hw⟩
  · rw [if_neg hw]
    by_cases hi : (s.now : Int) - s.lastreq < tm.minInterval
    · exact .inr (.inl ⟨hw, hi, if_pos hi⟩)
    · exact .inr (.inr ⟨hw, hi, if_neg hi⟩)

theorem readiness_preHeating_iff_of_timing : readiness s = .preHeating ↔ s.now < tm.warmup := by
  obtain ⟨hw, he⟩ | ⟨hw, _, he⟩ | ⟨hw, _, he⟩ := readiness_cases_of_timing ht
  · exact iff_of_true he hw
  · exact iff_of_false (by simp [he]) hw
  · exact iff_of_false (by simp [he]) hw

theorem readiness_coolingDown_iff_of_timing :
    readiness s = .coolingDown ↔ ¬ s.now < tm.warmup ∧ (s.now : Int) - s.lastreq < tm.minInterval := by
  obtain ⟨hw, he⟩ | ⟨hw, hi, he⟩ | ⟨hw, hi, he⟩ := readiness_cases_of_timing ht
  · exact iff_of_false (by simp [he]) fun h => h.1 hw
  · exact iff_of_true he ⟨hw, hi⟩
  · exact iff_of_false (by simp [he]) fun h => hi h.2

theorem readiness_ready_iff_of_timing :
    readiness s = .ready ↔ ¬ s.now < tm.warmup ∧ ¬ (s.now : Int) - s.lastreq < tm.minInterval := by
  obtain ⟨hw, he⟩ | ⟨hw, hi, he⟩ | ⟨hw, hi, he⟩ := readiness_cases_of_timing ht
  · exact iff_of_false (by simp [he]) fun h => h.1 hw
  · exact iff_of_false (by simp [he]) fun h => h.2 hi
  · exact iff_of_true he ⟨hw, hi⟩

end

/-! ### An unrecognised variant -/

theorem isPreheating_of_no_timing {s : State} (ht : timingOf s.params s.variant = none) : isPreheating s = false := by
  simp [isPreheating, ht]

theorem isReady_of_no_timing {s : State} (ht : timingOf s.params s.variant = none) : isReady s = true := by
  simp [isReady, isPreheating_of_no_timing ht, ht]

theorem readiness_of_no_timing {s : State} (ht : timingOf s.params s.variant = none) : readiness s = .ready := by
  simp [readiness, ht]

/-! ### Every variant -/

/-- The predicate and the state of R170 agree (R171). -/
theorem isPreheating_iff_readiness (s : State) : isPreheating s = true ↔ readiness s = .preHeating := by
  cases ht : timingOf s.params s.variant with
  | none => simp [isPreheating_of_no_timing ht, readiness_of_no_timing ht]
  | some tm => rw [isPreheating_iff_of_timing ht, readiness_preHeating_iff_of_timing ht]

/-- The predicate and the state of R170 agree (R172). -/
theorem isReady_iff_readiness (s : State) : isReady s = true ↔ readiness s = .ready := by
  cases ht : timingOf s.params s.variant with
  | none => simp [isReady_of_no_timing ht, readiness_of_no_timing ht]
  | some tm => rw [isReady_iff_of_timing ht, readiness_ready_iff_of_timing ht]

theorem not_isPreheating_of_isReady {s : State} (h : isReady s = true) : isPreheating s = false := by
  have hready : readiness s = .ready := (isReady_iff_readiness s).1 h
  rw [← Bool.not_eq_true, isPreheating_iff_readiness, hready]
  decide

/-- Warm-up takes some time for every known variant: WARMUP[v] > 0 (R176). -/
theorem isPreheating_at_zero {s : State} (hp : paramsLegal s.params = true) (hv : s.variant ≠ .U) (hn : s.now = 0) :
    isPreheating s = true := by
  obtain ⟨tm, ht⟩ := exists_timingOf s.params hv
  obtain ⟨hpos, hle⟩ := (timingLegal_iff tm).1 (timingLegal_of_timingOf hp ht)
  rw [isPreheating_iff_of_timing ht, hn]
  omega

/-- A block that is preheating was preheating at every earlier time: WARMUP[v] is fixed and NOW only grows (R171). -/
theorem isPreheating_of_later {s t : State} (h : Later s t) (hpre : isPreheating t = true) : isPreheating s = true := by
  have htm : timingOf t.params t.variant = timingOf s.params s.variant := by rw [h.params, h.variant]
  cases ht : timingOf s.params s.variant with
  | none => simp [isPreheating_of_no_timing (htm.trans ht)] at hpre
  | some tm =>
    rw [isPreheating_iff_of_timing (htm.trans ht)] at hpre
    rw [isPreheating_iff_of_timing ht]
    exact h.now.trans_lt hpre

/-! ### The obligations -/

/-- Settles O15: the rule per variant, WARMUP[v] > 0 at NOW = 0, and `isPreheating_of_later` for the step. -/
theorem preheatingRule : Obligations.PreheatingRule := by
  refine ⟨fun s hv => ?_, fun s hv => ?_, fun s hv => ?_, fun s => isPreheating_at_zero, fun s t hstep hs => ?_⟩
  · exact isPreheating_iff_of_timing (by rw [hv, timingOf_A])
  · exact isPreheating_iff_of_timing (by rw [hv, timingOf_B])
  · exact isPreheating_of_no_timing (by rw [hv, timingOf_U])
  · rw [← Bool.not_eq_true] at hs ⊢
    exact fun ht => hs (isPreheating_of_later (step_later hstep) ht)

/-- Settles O16: the rule per variant, and the agreement of both predicates with the state of R170. -/
theorem readyRule : Obligations.ReadyRule := by
  intro s
  refine ⟨fun hv => ?_, fun hv => ?_, fun hv => ?_, not_isPreheating_of_isReady, isReady_iff_readiness s,
    isPreheating_iff_readiness s⟩
  · exact isReady_iff_of_timing (by rw [hv, timingOf_A])
  · exact isReady_iff_of_timing (by rw [hv, timingOf_B])
  · exact isReady_of_no_timing (by rw [hv, timingOf_U])

/-- Settles O17: `t - q >= 0` is the clause `clock` of the invariant; the three states are the cases of R170. -/
theorem readinessStates : Obligations.ReadinessStates := by
  intro s tm hinv ht
  have hclock : s.lastreq ≤ s.now := hinv.clock
  refine ⟨by omega, readiness_preHeating_iff_of_timing ht, ?_, ?_⟩
  · rw [readiness_coolingDown_iff_of_timing ht, Nat.not_lt]
  · rw [readiness_ready_iff_of_timing ht, Nat.not_lt, Int.not_lt]

end Sys2Proof.Machine
end

section
/-! PROOFS. The host-operation family (spec/45_host_ops.md): the two queries, ISPRE and ISRDY. Each is a command word, the
step that takes it in phase IDLE, and the step in GATE that delivers a predicate, whatever the configuration. -/

namespace Sys2Proof.Machine

/-! ### The shared rules -/

/-- In every phase but IDLE the operation in progress runs the line of its pseudocode that PH names. -/
theorem hostOp_of_running {i : Instr} {p : Phase} {s : State} (line : Phase → Result) (h : running i p s)
    (hp : p ≠ .idle) : hostOp i s line = line p := by
  obtain ⟨rfl, hop⟩ := h
  exact hostOp_running i s line hp hop

theorem portVal_boolVal_eq (b : Bool) : portVal (boolVal b) = if b then 1 else 0 := by
  cases b with
  | true => exact portVal_eq 1 (by decide) (by decide)
  | false => exact portVal_eq 0 (by decide) (by decide)

/-- `return Ok(1) if b else Ok(0)`, the last line of both queries (R221, R223). -/
theorem returnOk_boolVal (b : Bool) (s : State) : returnOk (boolVal b) s = deliver ⟨.ok, if b then 1 else 0⟩ s := by
  rw [returnOk, portVal_boolVal_eq]

/-! ### ISPRE -/

theorem decode_hcWord_ispre (a : BitVec 32) : decode (.hc (hcWord 0x7 a)) = .ok (.ispre a) := by
  rw [decode, decodeHC, hcWord_sel, hcWord_arg]
  rfl

theorem exec_ispre_idle (a : BitVec 32) {s : State} (h : s.ph = .idle) :
    exec (.ispre a) s = .next (accept (.ispre a) s) :=
  hostOp_idle (.ispre a) s _ h

theorem exec_ispre_gate {a : BitVec 32} {s : State} (h : running (.ispre a) .gate s) :
    exec (.ispre a) s = .next (deliver ⟨.ok, if isPreheating s then 1 else 0⟩ s) := by
  calc exec (.ispre a) s
    _ = execIspre a s := rfl
    _ = .next (returnOk (boolVal (isPreheating s)) s) := hostOp_of_running _ h (by decide)
    _ = .next (deliver ⟨.ok, if isPreheating s then 1 else 0⟩ s) := by rw [returnOk_boolVal]

/-- Settles O45: the word, the step from IDLE, and the two answers of the line in GATE. -/
theorem ispreReturnsPreheating : Obligations.IspreReturnsPreheating := by
  intro a s
  refine ⟨decode_hcWord_ispre a, exec_ispre_idle a, fun h hb => ?_, fun h hb => ?_⟩
  all_goals
    rw [exec_ispre_gate h, hb]
    rfl

/-! ### ISRDY -/

theorem decode_hcWord_isrdy (a : BitVec 32) : decode (.hc (hcWord 0x8 a)) = .ok (.isrdy a) := by
  rw [decode, decodeHC, hcWord_sel, hcWord_arg]
  rfl

theorem exec_isrdy_idle (a : BitVec 32) {s : State} (h : s.ph = .idle) :
    exec (.isrdy a) s = .next (accept (.isrdy a) s) :=
  hostOp_idle (.isrdy a) s _ h

theorem exec_isrdy_gate {a : BitVec 32} {s : State} (h : running (.isrdy a) .gate s) :
    exec (.isrdy a) s = .next (deliver ⟨.ok, if isReady s then 1 else 0⟩ s) := by
  calc exec (.isrdy a) s
    _ = execIsrdy a s := rfl
    _ = .next (returnOk (boolVal (isReady s)) s) := hostOp_of_running _ h (by decide)
    _ = .next (deliver ⟨.ok, if isReady s then 1 else 0⟩ s) := by rw [returnOk_boolVal]

/-- Settles O46: the word, the step from IDLE, and the two answers of the line in GATE. -/
theorem isrdyReturnsReady : Obligations.IsrdyReturnsReady := by
  intro a s
  refine ⟨decode_hcWord_isrdy a, exec_isrdy_idle a, fun h hb => ?_, fun h hb => ?_⟩
  all_goals
    rw [exec_isrdy_gate h, hb]
    rfl

end Sys2Proof.Machine
end

section
/-! PROOFS. The failure-status family (spec/60_exceptions.md): the gates of SETSPAN in the order of R261. Each gate is said
once; phase GATE raises the first failure among them. -/

namespace Sys2Proof.Machine

/-! ### The gate of the serial channel and of readiness -/

theorem gateSerialReady_of_not_configured {s : State} (hc : s.cfg.ser = false) :
    gateSerialReady s = some .serialNotConfigured :=
  if_pos hc

theorem gateSerialReady_of_not_ready {s : State} (hc : s.cfg.ser = true) (hr : readiness s ≠ .ready) :
    gateSerialReady s = some .notReady := by
  have hready : isReady s = false := by rwa [← Bool.not_eq_true, isReady_iff_readiness]
  rw [gateSerialReady, if_neg (by simp [hc]), if_pos hready]

theorem gateSerialReady_of_ready {s : State} (hc : s.cfg.ser = true) (hr : readiness s = .ready) :
    gateSerialReady s = none :=
  (gateSerialReady_none s).2 ⟨hc, (isReady_iff_readiness s).2 hr⟩

/-! ### The gates of SETSPAN -/

theorem gateSpan_of_rejected {v : Int} (hv : v < 1000 ∨ 5000 < v) : gateSpan v = some .badSpanValue :=
  if_neg fun ha => by
    obtain ⟨hlo, hhi⟩ := (spanAccepted_iff v).1 ha
    omega

theorem gateSpan_of_accepted {v : Int} (hlo : 1000 ≤ v) (hhi : v ≤ 5000) : gateSpan v = none :=
  if_pos ((spanAccepted_iff v).2 ⟨hlo, hhi⟩)

/-- A rejected span hides every later check (R254, R261). -/
theorem gateSetspan_of_rejected {v : Int} (hv : v < 1000 ∨ 5000 < v) (s : State) :
    gateSetspan v s = some .badSpanValue := by
  rw [gateSetspan, gateSpan_of_rejected hv]

theorem gateSetspan_of_accepted {v : Int} (hlo : 1000 ≤ v) (hhi : v ≤ 5000) (s : State) :
    gateSetspan v s = gateSerialReady s := by
  rw [gateSetspan, gateSpan_of_accepted hlo hhi]

/-! ### Phase GATE of SETSPAN -/

theorem exec_setspan_gate {v : Int} {s : State} (h : running (.setspan v) .gate s) :
    exec (.setspan v) s = .next (afterGate (gateSetspan v s) s (goto .build)) := by
  calc exec (.setspan v) s
    _ = execSetspan v s := rfl
    _ = .next (afterGate (gateSetspan v s) s (goto .build)) := hostOp_of_running _ h (by decide)

theorem exec_setspan_gate_of_failure {v : Int} {s : State} {st : Status} (h : running (.setspan v) .gate s)
    (hg : gateSetspan v s = some st) : exec (.setspan v) s = .next (raise st s) := by
  rw [exec_setspan_gate h, hg, afterGate]

theorem exec_setspan_gate_of_passed {v : Int} {s : State} (h : running (.setspan v) .gate s)
    (hg : gateSetspan v s = none) : exec (.setspan v) s = .next (goto .build s) := by
  rw [exec_setspan_gate h, hg, afterGate]

/-- Settles O43: the first failing gate decides, in the order span, channel, readiness; past all three BUILD follows. -/
theorem setspanGatesInOrder : Obligations.SetspanGatesInOrder := by
  intro v s h
  refine ⟨fun hv => ?badSpan, fun hlo hhi hc => ?notConfigured, fun hlo hhi hc hr => ?notReady,
    fun hlo hhi hc hr => ?passed⟩
  case badSpan => exact exec_setspan_gate_of_failure h (gateSetspan_of_rejected hv s)
  case notConfigured =>
    exact exec_setspan_gate_of_failure h
      ((gateSetspan_of_accepted hlo hhi s).trans (gateSerialReady_of_not_configured hc))
  case notReady =>
    exact exec_setspan_gate_of_failure h
      ((gateSetspan_of_accepted hlo hhi s).trans (gateSerialReady_of_not_ready hc hr))
  case passed =>
    exact exec_setspan_gate_of_passed h
      ((gateSetspan_of_accepted hlo hhi s).trans (gateSerialReady_of_ready hc hr))

end Sys2Proof.Machine
end

section
/-! PROOFS. The round trip of the encodings (spec/30_encoding.md): every well-formed instruction is read back from its
encoding, and every command word and every command frame is the encoding of one. -/

namespace Sys2Proof.Machine

/-! ### From an instruction to its encoding and back -/

theorem decode_encode {i : Instr} (h : i.wf = true) : decode (encode i) = .ok i := by
  cases i with
  | cmdRead => rfl
  | cmdAbcOn => rfl
  | cmdAbcOff => rfl
  | cmdBg => rfl
  | cmdSpan n =>
    simp only [Instr.wf, Bool.and_eq_true, decide_eq_true_eq] at h
    exact decodeCF_frameSpan n h.1 h.2
  | resp f => rfl
  | setabc e r =>
    rw [encode, decode, decodeHC, hcWord_sel, hcWord_arg, abcArg_enable, abcArg_rest]
    rfl
  | setspan v =>
    simp only [Instr.wf, Bool.and_eq_true, decide_eq_true_eq] at h
    rw [encode, decode, decodeHC, hcWord_sel, hcWord_arg, toInt_ofInt_32 v h.1 h.2]
    rfl
  | rduart | rdpwm | gettemp | setbg | ispre | isrdy | hcReserved0 | hcReserved9 | hcReservedA | hcReservedB
  | hcReservedC | hcReservedD | hcReservedE | hcReservedF =>
    rw [encode, decode, decodeHC, hcWord_sel, hcWord_arg]
    rfl

/-- Settles O1: `decode_encode`, by cases on the rows of the opcode table. -/
theorem decodeOfEncodeIsTheInstruction : Obligations.DecodeOfEncodeIsTheInstruction :=
  fun _ => decode_encode

/-! ### From a word or frame to its instruction and back -/

/-- The command words are covered: sixteen selectors, sixteen rows (R92, R94, R96). -/
theorem exists_encode_eq_hcWord (sel : BitVec 4) (arg : BitVec 32) :
    ∃ i : Instr, i.wf = true ∧ encode i = .hc (hcWord sel arg) := by
  match sel with
  | ⟨⟨0, _⟩⟩ => exact ⟨.hcReserved0 arg, rfl, rfl⟩
  | ⟨⟨1, _⟩⟩ => exact ⟨.rduart arg, rfl, rfl⟩
  | ⟨⟨2, _⟩⟩ => exact ⟨.rdpwm arg, rfl, rfl⟩
  | ⟨⟨3, _⟩⟩ => exact ⟨.gettemp arg, rfl, rfl⟩
  | ⟨⟨4, _⟩⟩ => exact ⟨.setabc (arg.getLsbD 0) (arg.extractLsb' 1 31), rfl, by rw [encode, abcArg_fields]; rfl⟩
  | ⟨⟨5, _⟩⟩ => exact ⟨.setbg arg, rfl, rfl⟩
  | ⟨⟨6, _⟩⟩ =>
    have hlo : -2147483648 ≤ arg.toInt := arg.le_toInt
    have hhi : arg.toInt < 2147483648 := arg.toInt_lt
    exact ⟨.setspan arg.toInt, by simp [Instr.wf, hlo, hhi], by rw [encode, BitVec.ofInt_toInt]; rfl⟩
  | ⟨⟨7, _⟩⟩ => exact ⟨.ispre arg, rfl, rfl⟩
  | ⟨⟨8, _⟩⟩ => exact ⟨.isrdy arg, rfl, rfl⟩
  | ⟨⟨9, _⟩⟩ => exact ⟨.hcReserved9 arg, rfl, rfl⟩
  | ⟨⟨10, _⟩⟩ => exact ⟨.hcReservedA arg, rfl, rfl⟩
  | ⟨⟨11, _⟩⟩ => exact ⟨.hcReservedB arg, rfl, rfl⟩
  | ⟨⟨12, _⟩⟩ => exact ⟨.hcReservedC arg, rfl, rfl⟩
  | ⟨⟨13, _⟩⟩ => exact ⟨.hcReservedD arg, rfl, rfl⟩
  | ⟨⟨14, _⟩⟩ => exact ⟨.hcReservedE arg, rfl, rfl⟩
  | ⟨⟨15, _⟩⟩ => exact ⟨.hcReservedF arg, rfl, rfl⟩
  | ⟨⟨n + 16, h⟩⟩ => exact absurd h (by omega)

/-- What the decoder reads from a command word is well formed and encodes to that word. -/
theorem encode_decodeHC (w : HCWord) : (decodeHC w).wf = true ∧ encode (decodeHC w) = .hc w := by
  obtain ⟨i, hwf, he⟩ := exists_encode_eq_hcWord (w.extractLsb' 32 4) (w.extractLsb' 0 32)
  rw [hcWord_fields] at he
  have hd : decode (.hc w) = .ok i := he ▸ decode_encode hwf
  injection hd with hd
  rw [hd]
  exact ⟨hwf, he⟩

/-- What a frame in CMD decodes to is well formed and encodes to that frame. -/
theorem encode_of_decodeCF {f : Frame} {i : Instr} (h : decodeCF f = .ok i) : i.wf = true ∧ encode i = .cf f := by
  obtain ⟨rfl, rfl⟩ | ⟨rfl, rfl⟩ | ⟨rfl, rfl⟩ | ⟨rfl, rfl⟩ | ⟨n, rfl, rfl, h1, h2⟩ := decodeCF_cases f i h
  case inr.inr.inr.inr => exact ⟨by simp [Instr.wf, h1, h2], rfl⟩
  all_goals exact ⟨rfl, rfl⟩

/-- Settles O2: a case for each place an encoding stands at. -/
theorem encodeOfDecodeIsTheWord : Obligations.EncodeOfDecodeIsTheWord := by
  intro e i h
  cases e with
  | hc w =>
    injection h with h
    exact h ▸ encode_decodeHC w
  | cf f => exact encode_of_decodeCF h
  | rf f =>
    injection h with h
    exact h ▸ ⟨rfl, rfl⟩

/-- Settles O3: each word is the encoding of its instruction, which `decode_encode` reads back; the
sign extension of -1 is evaluated. -/
theorem wordsOfTheSpecDecode : Obligations.WordsOfTheSpecDecode :=
  ⟨decode_encode (i := .rduart 0) rfl, decode_encode (i := .rdpwm 0) rfl,
    decode_encode (i := .setabc false 0x7FFFFFFF) rfl, decode_encode (i := .setspan 2000) rfl,
    by decide, decode_encode (i := .hcReserved9 0) rfl, decode_encode (i := .cmdRead) rfl,
    decode_encode (i := .cmdAbcOn) rfl, decode_encode (i := .cmdSpan 2000) rfl,
    decode_encode (i := .resp ⟨0xFF, 0x86, 0x01, 0x90, 0x43, 0, 0, 0, 0xA6⟩) rfl⟩

end Sys2Proof.Machine
end

section
/-! PROOFS. CHECKSUM as a negation (spec/40_checksum.md) and the five command frames (spec/41_frame_build.md). -/

namespace Sys2Proof.Machine

/-! ### CHECKSUM -/

theorem bodySum_le (f : Frame) : f.bodySum ≤ 1785 := by
  have := f.b1.isLt
  have := f.b2.isLt
  have := f.b3.isLt
  have := f.b4.isLt
  have := f.b5.isLt
  have := f.b6.isLt
  have := f.b7.isLt
  rw [Frame.bodySum]
  omega

/-- Accumulating in eight bits loses nothing but multiples of 256. -/
theorem toNat_byteSum (f : Frame) : (f.b1 + f.b2 + f.b3 + f.b4 + f.b5 + f.b6 + f.b7).toNat = f.bodySum % 256 := by
  simp only [BitVec.toNat_add, Frame.bodySum]
  omega

/-- CHECKSUM is the one byte that makes the sum of bytes 1 to 8 a multiple of 256 (R90, R111). -/
theorem checksum_eq_iff (f : Frame) (c : Byte) : checksum f = c ↔ (f.bodySum + c.toNat) % 256 = 0 := by
  have hc : c.toNat < 256 := c.isLt
  rw [← BitVec.toNat_inj, checksum_toNat]
  omega

theorem bodySum_add_checksum (f : Frame) : (f.bodySum + (checksum f).toNat) % 256 = 0 :=
  (checksum_eq_iff f _).1 rfl

/-- Settles O7: the value of CHECKSUM is `checksum_toNat`, its corner cases are `checksum_eq_iff`. -/
theorem checksumNegatesTheBodySum : Obligations.ChecksumNegatesTheBodySum := by
  intro f S
  have hval : (checksum f).toNat = (256 - S % 256) % 256 := checksum_toNat f
  have hzero : (S + (checksum f).toNat) % 256 = 0 := bodySum_add_checksum f
  have hcorner (c : Byte) (h : (S + c.toNat) % 256 = 0) : checksum f = c := (checksum_eq_iff f c).2 h
  have hle : S ≤ 1785 := bodySum_le f
  have hbits : (f.b1 + f.b2 + f.b3 + f.b4 + f.b5 + f.b6 + f.b7).toNat = S % 256 := toNat_byteSum f
  clear_value S
  refine ⟨hval, by omega, hzero, fun h => hcorner 0x00 ?_, fun h => hcorner 0xFF ?_, fun h => hcorner 0x01 ?_,
    by omega, by omega, hle, hbits⟩
  · change (S + 0) % 256 = 0
    omega
  · change (S + 255) % 256 = 0
    omega
  · change (S + 1) % 256 = 0
    omega

/-! ### CMD_SPAN -/

theorem frameSpan_b8 (n : Nat) : (frameSpan n).b8 = checksum (frameSpan n) :=
  (checksum_with_b0_b8 (frameSpan n) (frameSpan n).b0 0).symm ▸ rfl

/-- The closed form of the checksum byte of CMD_SPAN(n) (R91). -/
theorem frameSpan_b8_eq {n : Nat} (h : n ≤ 5000) :
    (frameSpan n).b8 = BitVec.ofInt 8 (0x77 - (n / 256 : Int) - (n % 256 : Int)) := by
  have hsum : (frameSpan n).bodySum = 0x89 + n / 256 + n % 256 := by
    have hbody : (frameSpan n).bodySum = 1 + 0x88 + (frameSpan n).b3.toNat + (frameSpan n).b4.toNat + 0 + 0 + 0 := rfl
    rw [hbody, frameSpan_b3 n h, frameSpan_b4 n]
    omega
  rw [frameSpan_b8, checksum_eq_iff, hsum, BitVec.toNat_ofInt]
  omega

theorem frameSpan_eq {n : Nat} (h : n ≤ 5000) :
    frameSpan n = ⟨0xFF, 0x01, 0x88, BitVec.ofNat 8 (n / 256), BitVec.ofNat 8 (n % 256), 0x00, 0x00, 0x00,
      BitVec.ofInt 8 (0x77 - (n / 256 : Int) - (n % 256 : Int))⟩ := by
  rw [← frameSpan_b8_eq h]
  rfl

/-- The closed form read as an unsigned byte. -/
theorem toNat_ofInt_8 (v : Int) : ((BitVec.ofInt 8 v).toNat : Int) = v % 256 := by
  rw [BitVec.toNat_ofInt]
  omega

/-- Settles O10: `frameSpan_eq`, with the byte 0xA0 of the spec's example. -/
theorem spanFrameBytes : Obligations.SpanFrameBytes :=
  ⟨fun _ _ h2 => ⟨_, frameSpan_eq h2, toNat_ofInt_8 _⟩, rfl⟩

/-! ### All command frames -/

/-- The encoding of a well-formed command frame is one of the frames of R125. -/
theorem commandFrame_cases {i : Instr} {f : Frame} (hwf : i.wf = true) (he : encode i = .cf f) :
    f = frameRead ∨ f = frameAbc true ∨ f = frameAbc false ∨ f = frameBg ∨ ∃ n, 1000 ≤ n ∧ n ≤ 5000 ∧ f = frameSpan n := by
  have hd : decodeCF f = .ok i := (congrArg decode he).symm.trans (decode_encode hwf)
  obtain ⟨_, hf⟩ | ⟨_, hf⟩ | ⟨_, hf⟩ | ⟨_, hf⟩ | ⟨n, _, hf, h1, h2⟩ := decodeCF_cases f i hd
  · exact .inl hf
  · exact .inr (.inl hf)
  · exact .inr (.inr (.inl hf))
  · exact .inr (.inr (.inr (.inl hf)))
  · exact .inr (.inr (.inr (.inr ⟨n, h1, h2, hf⟩)))

/-- Settles O11: the fixed bytes by cases on the frames; the sum of bytes 1 to 8 is `bodySum_add_checksum`. -/
theorem commandFramesKeepFrameInvariant : Obligations.CommandFramesKeepFrameInvariant := by
  intro i f hwf he
  have hbytes : f.b0 = 0xFF ∧ f.b1 = 0x01 ∧ f.b5 = 0x00 ∧ f.b6 = 0x00 ∧ f.b7 = 0x00 ∧ f.b8 = checksum f := by
    obtain rfl | rfl | rfl | rfl | ⟨n, _, _, rfl⟩ := commandFrame_cases hwf he
    case inr.inr.inr.inr => exact ⟨rfl, rfl, rfl, rfl, rfl, frameSpan_b8 n⟩
    all_goals exact ⟨rfl, rfl, rfl, rfl, rfl, rfl⟩
  obtain ⟨h0, h1, h5, h6, h7, h8⟩ := hbytes
  refine ⟨h0, h1, h5, h6, h7, h8, ?_⟩
  rw [h8]
  exact bodySum_add_checksum f

/-- Settles O12: an encoder with a left inverse is injective; a frame decodes to exactly the five rows. -/
theorem commandFramesAreDistinct : Obligations.CommandFramesAreDistinct := by
  refine ⟨fun i j f hi hj hei hej => ?_, fun f => ⟨fun ⟨i, h⟩ => ?_, fun h => ?_⟩⟩
  · have hd : decode (encode i) = decode (encode j) := by rw [hei, hej]
    rw [decode_encode hi, decode_encode hj] at hd
    injection hd
  · obtain ⟨hwf, he⟩ := encode_of_decodeCF h
    exact commandFrame_cases hwf he
  · obtain rfl | rfl | rfl | rfl | ⟨n, h1, h2, rfl⟩ := h
    · exact ⟨.cmdRead, decode_encode (i := .cmdRead) rfl⟩
    · exact ⟨.cmdAbcOn, decode_encode (i := .cmdAbcOn) rfl⟩
    · exact ⟨.cmdAbcOff, decode_encode (i := .cmdAbcOff) rfl⟩
    · exact ⟨.cmdBg, decode_encode (i := .cmdBg) rfl⟩
    · exact ⟨.cmdSpan n, decodeCF_frameSpan n h1 h2⟩

end Sys2Proof.Machine
end

section
/-! PROOFS. The forms operands and results take outside the registers (spec/30_encoding.md R97 to R99) and the PWM scaler
(spec/44_pwm.md). -/

namespace Sys2Proof.Machine

/-! ### Straps, tags and codes -/

/-- Settles O4: the four codes of VARIANT by evaluation; the two bits of CFG are its definition. -/
theorem strapCodesOfVariantAndCfg : Obligations.StrapCodesOfVariantAndCfg :=
  ⟨rfl, rfl, rfl, rfl, fun _ => ⟨rfl, rfl⟩⟩

/-- The status a tag of R97 stands for; Ok also for the tags R97 gives no status. -/
def statusOfTag (tag : BitVec 4) : Status :=
  match tag.toNat with
  | 2 => .noResponse
  | 3 => .checksumMismatch
  | 4 => .incomplete
  | 5 => .notReady
  | 6 => .pwmNotConfigured
  | 7 => .serialNotConfigured
  | 8 => .badSpanValue
  | _ => .ok

theorem statusOfTag_statusTag (st : Status) : statusOfTag (statusTag st) = st := by
  cases st <;> rfl

theorem statusTag_injective (a b : Status) (h : statusTag a = statusTag b) : a = b := by
  rw [← statusOfTag_statusTag a, h, statusOfTag_statusTag]

/-- Under the default table the code of a failure is its negated tag (R97). -/
theorem statusCode_defaultCodes {st : Status} (h : st ≠ .ok) :
    statusCode Config.defaultCodes st = some (-((statusTag st).toNat : Int)) := by
  cases st with
  | ok => exact absurd rfl h
  | noResponse | checksumMismatch | incomplete | notReady | pwmNotConfigured | serialNotConfigured | badSpanValue => rfl

theorem statusTag_pos {st : Status} (h : st ≠ .ok) : 0 < (statusTag st).toNat := by
  cases st with
  | ok => exact absurd rfl h
  | noResponse | checksumMismatch | incomplete | notReady | pwmNotConfigured | serialNotConfigured | badSpanValue => decide

/-- Settles O5: `statusTag_injective` and `statusCode_defaultCodes`, then the two tables. -/
theorem statusTagsAndDefaultCodes : Obligations.StatusTagsAndDefaultCodes := by
  refine ⟨statusTag_injective, fun st h => ⟨_, statusCode_defaultCodes h, ?_, rfl⟩, ?_⟩
  · have := statusTag_pos h
    omega
  · exact ⟨⟨rfl, rfl, rfl, rfl, rfl, rfl, rfl, rfl⟩, rfl, rfl, rfl, rfl, rfl, rfl, rfl, rfl⟩

/-! ### The integer view of a result -/

theorem intView_ok_of_hasValue (c : StatusCodes) {i : Instr} (v : BitVec 32) (h : hasValue i = true) :
    intView c i ⟨.ok, v⟩ = some v.toInt :=
  if_pos h

theorem intView_ok_of_void (c : StatusCodes) {i : Instr} (v : BitVec 32) (h : hasValue i = false) :
    intView c i ⟨.ok, v⟩ = none :=
  if_neg (by simp [h])

theorem intView_of_failure (c : StatusCodes) (i : Instr) {st : Status} (v : BitVec 32) (h : st ≠ .ok) :
    intView c i ⟨st, v⟩ = statusCode c st := by
  cases st with
  | ok => exact absurd rfl h
  | noResponse | checksumMismatch | incomplete | notReady | pwmNotConfigured | serialNotConfigured | badSpanValue => rfl

/-- Settles O6: the three cases of the view; both collisions have an integer on one side and a default code on the other. -/
theorem integerViewOfAResult : Obligations.IntegerViewOfAResult := by
  refine ⟨fun c i v => intView_ok_of_hasValue c v, fun c i st v => intView_of_failure c i v,
    fun c a e r s v => ⟨intView_ok_of_void c v rfl, intView_ok_of_void c v rfl, intView_ok_of_void c v rfl⟩, fun _ => rfl,
    fun a => ⟨?_, ?_⟩⟩
  · rw [intView_ok_of_hasValue _ _ rfl, intView_of_failure _ _ _ (by decide)]
    rfl
  · rw [intView_ok_of_hasValue _ _ rfl, intView_of_failure _ _ _ (by decide), portVal_toInt _ (by decide) (by decide)]
    rfl

/-! ### The PWM scaler -/

/-- The denominator of PWM_DECODE is 1000 whatever `th` is, and it divides the numerator (R192). -/
theorem pwmDecode_eq (th : Int) : pwmDecode th = 2 * (th - 2) := by
  have hnum : Config.pwmScale * (th - Config.pwmOffNum) = 2 * (th - 2) * 1000 := by
    simp only [Config.pwmScale, Config.pwmOffNum]
    omega
  have hden : th + (Config.pwmCycle - th) - Config.pwmOffDen = 1000 := by
    simp only [Config.pwmCycle, Config.pwmOffDen]
    omega
  calc pwmDecode th
    _ = Int.tdiv (Config.pwmScale * (th - Config.pwmOffNum)) (th + (Config.pwmCycle - th) - Config.pwmOffDen) := rfl
    _ = Int.tdiv (2 * (th - 2) * 1000) 1000 := by rw [hnum, hden]
    _ = 2 * (th - 2) := Int.mul_tdiv_cancel _ (by decide)

/-- Settles O14: every clause is arithmetic on `2 * (th - 2)`. -/
theorem pwmScalerIsExact : Obligations.PwmScalerIsExact := by
  simp only [Obligations.PwmScalerIsExact, pwmDecode_eq]
  refine ⟨fun th => ?_, by decide⟩
  refine ⟨by omega, trivial, by omega, by omega, by omega, by omega, fun h1 h2 => by omega⟩

end Sys2Proof.Machine
end

section
/-! PROOFS. The readiness of an unrecognised variant and at the end of warm-up (spec/43_readiness.md), and reset
(spec/70_reset_and_hazards.md). -/

namespace Sys2Proof.Machine

/-! ### Readiness -/

theorem timingOf_of_unknown {s : State} (h : s.variant = .U) : timingOf s.params s.variant = none := by
  rw [h, timingOf_U]

theorem constructChecked_of_legal {c : Construction} (h : c.params.policy = .permissive ∨ c.variant ≠ .U) :
    constructChecked c = .next (State.construct c) :=
  if_neg fun ⟨hp, hv⟩ => h.elim (fun hperm => by simp [hp] at hperm) fun hknown => hknown hv

/-- Settles O18: without a timing record nothing delays the block; the policy alone refuses it. -/
theorem unknownVariantIsAlwaysReadyOrRefused : Obligations.UnknownVariantIsAlwaysReadyOrRefused := by
  refine ⟨fun s hv => ?_, fun c hp hv => if_pos ⟨hp, hv⟩, fun c => constructChecked_of_legal⟩
  have ht := timingOf_of_unknown hv
  exact ⟨isPreheating_of_no_timing ht, isReady_of_no_timing ht, readiness_of_no_timing ht⟩

/-- Settles O19: at LASTREQ = 0 the interval has passed once warm-up has, since MIN_INTERVAL[v] ≤ WARMUP[v]. -/
theorem warmupEndsInReady : Obligations.WarmupEndsInReady := by
  intro s tm hp ht hreq
  obtain ⟨_, hle⟩ := (timingLegal_iff tm).1 (timingLegal_of_timingOf hp ht)
  rw [readiness_preHeating_iff_of_timing ht, readiness_ready_iff_of_timing ht, hreq]
  exact ⟨id, fun h => by omega⟩

/-! ### Reset -/

theorem constructionLegal_iff (c : Construction) :
    constructionLegal c = true ↔ paramsLegal c.params = true ∧ strapsLegal c.params c.variant = true :=
  Bool.and_eq_true_iff

theorem isReady_of_isPreheating {s : State} (h : isPreheating s = true) : isReady s = false := by
  cases hr : isReady s with
  | false => rfl
  | true => exact absurd h (by simp [not_isPreheating_of_isReady hr])

/-- Settles O20: the registers by definition; the readiness of a known variant is `isPreheating_at_zero`. -/
theorem constructionLeavesTheResetValues : Obligations.ConstructionLeavesTheResetValues := by
  intro c
  refine ⟨rfl, rfl, rfl, rfl, rfl, rfl, rfl, rfl, rfl, rfl, fun hl hv => ?_, fun hv => ?_⟩
  · obtain ⟨hp, _⟩ := (constructionLegal_iff c).1 hl
    have hpre : isPreheating (State.construct c) = true := isPreheating_at_zero hp hv rfl
    exact ⟨hpre, isReady_of_isPreheating hpre⟩
  · exact isReady_of_no_timing (timingOf_of_unknown hv)

/-- Right after construction the block is idle with empty logs, so only the open parameters and the strap matter. -/
theorem construct_invariant {c : Construction} (h : constructionLegal c = true) : Invariant (State.construct c) := by
  obtain ⟨hp, hs⟩ := (constructionLegal_iff c).1 h
  have hlast : lasttempLegal (State.construct c) = true := by simp [lasttempLegal, State.construct]
  exact ⟨hp, hs, le_rfl, rfl, rfl, rfl, rfl, rfl, nofun, nofun, rfl, rfl, rfl, hlast, rfl⟩

/-- Settles O21. -/
theorem constructionMeetsInv : Obligations.ConstructionMeetsInv :=
  fun _ => construct_invariant

/-- The free parameters of `State.reset` are put together so that they meet their constraints (log 9). -/
theorem paramsLegal_config : paramsLegal Config.params = true := by
  have htiming (v : Variant) : timingLegal (Config.timing v) = true := by simp [timingLegal_iff, Config.timing]
  have hcodes : codesLegal Config.defaultCodes = true := by decide
  simp [paramsLegal, Config.params, htiming, hcodes]

/-- Settles O22: the construction behind `State.reset` is a legal one. -/
theorem resetMeetsInv : Obligations.ResetMeetsInv :=
  construct_invariant ((constructionLegal_iff _).2 ⟨paramsLegal_config, rfl⟩)

end Sys2Proof.Machine
end

section
/-! PROOFS. What the next step fetches and runs (spec/20_memory.md R63, spec/30_encoding.md R93, R96, spec/45_host_ops.md
R212): a lemma for each place an instruction comes from. -/

namespace Sys2Proof.Machine

/-! ### Phase IDLE -/

theorem fetch_of_idle {s : State} (hp : s.ph = .idle) : fetch s = fetchIdle s := by
  simp [fetch, hp]

theorem fetch_hostWord {s : State} {w : HCWord} {rest : List HostLine} (hp : s.ph = .idle)
    (hh : s.host = .issue w :: rest ∨ s.host = .force w :: rest) :
    fetch s = .next (some (decodeHC w), { s with host := rest }) := by
  rw [fetch_of_idle hp, fetchIdle]
  obtain hh | hh := hh <;> rw [hh] <;> rfl

theorem fetch_hostWait {s : State} {d : Nat} {rest : List HostLine} (hp : s.ph = .idle) (hh : s.host = .wait d :: rest) :
    fetch s = .next (none, sleep d { s with host := rest }) := by
  rw [fetch_of_idle hp, fetchIdle, hh]

theorem fetch_hostSilent {s : State} (hp : s.ph = .idle) (hh : s.host = []) : fetch s = .next (none, s) := by
  rw [fetch_of_idle hp, fetchIdle, hh]

/-! ### The other phases -/

theorem fetch_of_busy {s : State} (hp : s.ph ≠ .idle) : fetch s = fetchBusy s := by
  unfold fetch
  split
  · contradiction
  · rfl

theorem fetch_forced {s : State} {w : HCWord} {rest : List HostLine} (hp : s.ph ≠ .idle) (hh : s.host = .force w :: rest) :
    fetch s = .refused .busy := by
  rw [fetch_of_busy hp, fetchBusy, hh]

/-- A host that keeps to R271 presents no word while the block is busy. -/
theorem hostDutiful_iff (s : State) : hostDutiful s = true ↔ ∀ w rest, s.host ≠ .force w :: rest := by
  unfold hostDutiful
  split <;> simp_all

section
variable {s : State} {i : Instr} (hd : hostDutiful s = true)
include hd

theorem fetch_send (hp : s.ph = .send) (hc : decodeCF s.cmd = .ok i) : fetch s = .next (some i, s) := by
  rw [fetch_of_busy (by simp [hp]), fetchBusy]
  split
  · next hh => exact absurd hh ((hostDutiful_iff s).1 hd _ _)
  · simp [hp, decoded, decode, hc]

theorem fetch_check (hp : s.ph = .check) : fetch s = .next (some (.resp s.resp), s) := by
  rw [fetch_of_busy (by simp [hp]), fetchBusy]
  split
  · next hh => exact absurd hh ((hostDutiful_iff s).1 hd _ _)
  · simp [hp, decoded, decode]

theorem fetch_operation (hidle : s.ph ≠ .idle) (hsend : s.ph ≠ .send) (hcheck : s.ph ≠ .check) (ho : s.op = some i) :
    fetch s = .next (some i, s) := by
  rw [fetch_of_busy hidle, fetchBusy]
  split
  · next hh => exact absurd hh ((hostDutiful_iff s).1 hd _ _)
  · split
    · contradiction
    · contradiction
    · simp [ho]

end

/-! ### The obligations about a step as a whole -/

/-- Settles O25: the fetch of each place, then `step_of_fetch`. -/
theorem stepRunsTheDecodedInstruction : Obligations.StepRunsTheDecodedInstruction := by
  refine ⟨fun s w rest i hp hh hi => ?_, fun s i hp hd hi => ?_, fun s i hp hd hi => ?_, fun s i h1 h2 h3 hd ho => ?_,
    fun _ => rfl, fun _ => rfl, fun _ => rfl⟩
  · injection hi with hi
    exact hi ▸ step_of_fetch s _ _ (fetch_hostWord hp hh)
  · exact step_of_fetch s s i (fetch_send hd hp hi)
  · injection hi with hi
    exact hi ▸ step_of_fetch s s _ (fetch_check hd hp)
  · exact step_of_fetch s s i (fetch_operation hd h1 h2 h3 ho)

theorem act_of_nil (s : State) (h : s.env = []) : s.act = Config.environment s.draws := by
  simp [State.act, h]

/-- Settles O26: the two fetches that find nothing to run, and where the act of a step comes from. -/
theorem idleStepLetsTimePass : Obligations.IdleStepLetsTimePass :=
  ⟨fun s hp hh => step_of_fetch_none s s (fetch_hostSilent hp hh),
    fun s _ _ hp hh => step_of_fetch_none s _ (fetch_hostWait hp hh), act_of_cons, act_of_nil⟩

/-! ### Reserved selectors -/

/-- A command word is one of the eight operations, by its selector 1 to 8, or reserved and refused under its selector. -/
theorem decodeHC_cases (w : HCWord) :
    ((w.extractLsb' 32 4 ≠ 0 ∧ (w.extractLsb' 32 4).toNat < 9) ∧ allows (decodeHC w) .gate = true) ∨
    ((w.extractLsb' 32 4 = 0 ∨ 9 ≤ (w.extractLsb' 32 4).toNat) ∧
      ∀ s, exec (decodeHC w) s = .refused (.reservedOpSel (w.extractLsb' 32 4))) := by
  obtain ⟨_, he⟩ := encode_decodeHC w
  generalize decodeHC w = i at he
  cases i with
  | cmdRead | cmdAbcOn | cmdAbcOff | cmdBg | cmdSpan | resp => cases he
  | rduart | rdpwm | gettemp | setabc | setbg | setspan | ispre | isrdy =>
    obtain rfl := Encoded.hc.inj he
    rw [hcWord_sel]
    exact .inl ⟨by decide, by simp [allows]⟩
  | hcReserved0 | hcReserved9 | hcReservedA | hcReservedB | hcReservedC | hcReservedD | hcReservedE | hcReservedF =>
    obtain rfl := Encoded.hc.inj he
    rw [hcWord_sel]
    exact .inr ⟨by decide, fun _ => rfl⟩

/-- Settles O34: the eight rows by definition; an issued word by `decodeHC_cases`. -/
theorem reservedOpSelIsRefused : Obligations.ReservedOpSelIsRefused := by
  refine fun s arg => ⟨rfl, rfl, rfl, rfl, rfl, rfl, rfl, rfl, fun w rest hp hh hsel => ?_⟩
  obtain ⟨⟨hne, hlt⟩, _⟩ | ⟨_, hexec⟩ := decodeHC_cases w
  · obtain h0 | h9 := hsel
    · exact absurd h0 hne
    · omega
  · rw [step_of_fetch s _ _ (fetch_hostWord hp (.inl hh)), hexec]
    rfl

theorem step_of_fetch_refused {s : State} {r : Refusal} (h : fetch s = .refused r) : step s = .refused r := by
  simp [step, h]

/-- Settles O35: the fetch refuses the word; each of the eight meanings refuses to run for another operation. -/
theorem operationWhileBusyIsRefused : Obligations.OperationWhileBusyIsRefused := by
  refine ⟨fun s w rest hp hh => step_of_fetch_refused (fetch_forced hp hh), fun s a e r v hp => ?_⟩
  exact ⟨hostOp_busy _ s _ hp, hostOp_busy _ s _ hp, hostOp_busy _ s _ hp, hostOp_busy _ s _ hp, hostOp_busy _ s _ hp,
    hostOp_busy _ s _ hp, hostOp_busy _ s _ hp, hostOp_busy _ s _ hp⟩

end Sys2Proof.Machine
end

section
/-! PROOFS. The host operations phase by phase (spec/45_host_ops.md): what each line of the pseudocode does to the state. -/

namespace Sys2Proof.Machine

/-! ### Phases IDLE and GATE -/

/-- The command port takes every host operation (R24, R212). -/
theorem exec_of_idle {i : Instr} {s : State} (hi : allows i .gate = true) (hp : s.ph = .idle) :
    exec i s = .next (accept i s) := by
  cases i with
  | rduart | rdpwm | gettemp | setabc | setbg | setspan | ispre | isrdy => exact hostOp_idle _ s _ hp
  | _ => exact absurd hi (by simp [allows])

/-- Settles O40: `exec_of_idle` for the eight operations. -/
theorem everyOperationStartsAtGate : Obligations.EveryOperationStartsAtGate := by
  intro s a e r v hp
  have hstart (i : Instr) (hi : allows i .gate = true) : exec i s = .next (accept i s) := exec_of_idle hi hp
  exact ⟨hstart _ rfl, hstart _ rfl, hstart _ rfl, hstart _ rfl, hstart _ rfl, hstart _ rfl, hstart _ rfl, hstart _ rfl⟩

/-- RDUART, SETABC and SETBG have the same gates (R211). -/
theorem exec_serial_gate {i : Instr} {s : State} {a : BitVec 32} {e : Bool} {r : BitVec 31}
    (hi : i = .rduart a ∨ i = .setabc e r ∨ i = .setbg a) (h : running i .gate s) :
    exec i s = .next (afterGate (gateSerialReady s) s (goto .build)) := by
  obtain rfl | rfl | rfl := hi <;> exact hostOp_of_running _ h (by decide)

/-- Settles O42: the first failing gate decides, the channel before the readiness. -/
theorem serialGatesInOrder : Obligations.SerialGatesInOrder := by
  intro i s a e r hi h
  rw [exec_serial_gate hi h]
  refine ⟨fun hc => ?_, fun hc hr => ?_, fun hc hr => ?_⟩
  · rw [gateSerialReady_of_not_configured hc]
    rfl
  · rw [gateSerialReady_of_not_ready hc hr]
    rfl
  · rw [gateSerialReady_of_ready hc hr]
    rfl

theorem gateSerialWarm_of_not_configured {s : State} (hc : s.cfg.ser = false) :
    gateSerialWarm s = some .serialNotConfigured :=
  if_pos hc

theorem gateSerialWarm_of_preHeating {s : State} (hc : s.cfg.ser = true) (hr : readiness s = .preHeating) :
    gateSerialWarm s = some .notReady := by
  rw [gateSerialWarm, if_neg (by simp [hc]), if_pos ((isPreheating_iff_readiness s).2 hr)]

theorem gateSerialWarm_of_warm {s : State} (hc : s.cfg.ser = true) (hr : readiness s ≠ .preHeating) :
    gateSerialWarm s = none := by
  rw [gateSerialWarm, if_neg (by simp [hc]), if_neg fun h => hr ((isPreheating_iff_readiness s).1 h)]

theorem exec_gettemp_gate {a : BitVec 32} {s : State} (h : running (.gettemp a) .gate s) :
    exec (.gettemp a) s = .next (afterGate (gateSerialWarm s) s (returnOk s.lasttemp)) :=
  hostOp_of_running _ h (by decide)

/-- Settles O44: the two gates, then `portVal` of the cache, which is exact where the port holds it. -/
theorem gettempReturnsTheCache : Obligations.GettempReturnsTheCache := by
  intro a s h
  rw [exec_gettemp_gate h]
  refine ⟨fun hc => ?_, fun hc hr => ?_, fun hc hr => ⟨portVal s.lasttemp, ?_, portVal_toInt s.lasttemp⟩⟩
  · rw [gateSerialWarm_of_not_configured hc]
    rfl
  · rw [gateSerialWarm_of_preHeating hc hr]
    rfl
  · rw [gateSerialWarm_of_warm hc hr]
    rfl

/-! ### Phase BUILD -/

/-- Every sending operation puts its frame into CMD; SETSPAN where its span is accepted (R120 to R124). -/
theorem exec_sender_build {i : Instr} {s : State} {f : Frame} (h : running i .build s) (hf : frameOf i = some f)
    (hv : ∀ v, i = .setspan v → spanAccepted v = true) : exec i s = .next (buildCmd f s) := by
  cases i with
  | rduart | setabc | setbg =>
    obtain rfl := Option.some.inj hf
    exact hostOp_of_running _ h (by decide)
  | setspan v =>
    obtain rfl := Option.some.inj hf
    calc exec (.setspan v) s
      _ = .next (buildSpanLine v s) := hostOp_of_running _ h (by decide)
      _ = .next (buildCmd (frameSpan v.toNat) s) := by rw [buildSpanLine, buildSpan, if_pos (hv v rfl)]
  | _ => cases hf

/-- CMD_SPAN of an accepted span, its bytes by the integer arithmetic of R91 and R123. -/
theorem frameSpan_toNat_eq {v : Int} (h1 : 1000 ≤ v) (h2 : v ≤ 5000) :
    frameSpan v.toNat = ⟨0xFF, 0x01, 0x88, BitVec.ofInt 8 (v / 256), BitVec.ofInt 8 (v % 256), 0x00, 0x00, 0x00,
      BitVec.ofInt 8 (0x77 - v / 256 - v % 256)⟩ := by
  obtain ⟨n, rfl⟩ := Int.eq_ofNat_of_zero_le (show 0 ≤ v by omega)
  have hdiv : BitVec.ofInt 8 ((n : Int) / 256) = BitVec.ofNat 8 (n / 256) := BitVec.ofInt_natCast 8 (n / 256)
  have hmod : BitVec.ofInt 8 ((n : Int) % 256) = BitVec.ofNat 8 (n % 256) := BitVec.ofInt_natCast 8 (n % 256)
  rw [Int.toNat_natCast, frameSpan_eq (by omega), hdiv, hmod]

/-- Settles O47: `exec_sender_build` with the frame of each operation. -/
theorem buildersFillCmd : Obligations.BuildersFillCmd := by
  refine ⟨fun a s h => exec_sender_build h rfl nofun, fun r s h => exec_sender_build h rfl nofun,
    fun r s h => exec_sender_build h rfl nofun, fun a s h => exec_sender_build h rfl nofun,
    fun v s h h1 h2 => ⟨_, toNat_ofInt_8 _, ?_⟩⟩
  have haccepted : ∀ w, Instr.setspan v = .setspan w → spanAccepted w = true := by
    rintro w ⟨⟩
    exact (spanAccepted_iff v).2 ⟨h1, h2⟩
  rw [exec_sender_build h rfl haccepted, frameSpan_toNat_eq h1 h2]
  rfl

/-! ### Phase SEND -/

theorem sendFrame_of_send {s : State} (f : Frame) (hp : s.ph = .send) : sendFrame f s = .next (transmit f s) := by
  simp [sendFrame, hp]

/-- A command frame as an instruction (log 13). -/
theorem exec_commandFrame {i : Instr} {f : Frame} {s : State} (he : encode i = .cf f) (hp : s.ph = .send) :
    exec i s = .next (transmit f s) := by
  cases i with
  | cmdRead | cmdAbcOn | cmdAbcOff | cmdBg | cmdSpan =>
    obtain rfl := Encoded.cf.inj he
    exact sendFrame_of_send _ hp
  | _ => cases he

theorem exec_sender_send {i : Instr} {f : Frame} {s : State} (h : running i .send s) (hf : frameOf i = some f) :
    exec i s = .next (transmit s.cmd s) := by
  cases i with
  | rduart | setabc | setbg | setspan => exact hostOp_of_running _ h (by decide)
  | _ => cases hf

/-- Settles O36: `exec_commandFrame` with the bytes of each frame. -/
theorem commandFrameIsTransmittedAndStamped : Obligations.CommandFrameIsTransmittedAndStamped := by
  intro s hp
  refine ⟨exec_commandFrame (f := frameRead) rfl hp, exec_commandFrame (f := frameAbc true) rfl hp,
    exec_commandFrame (f := frameAbc false) rfl hp, exec_commandFrame (f := frameBg) rfl hp, fun n _ h2 => ?_⟩
  rw [exec_commandFrame (i := .cmdSpan n) rfl hp, frameSpan_eq h2]
  rfl

/-- Settles O48: both meanings transmit CMD. -/
theorem operationSendsTheFrameInCmd : Obligations.OperationSendsTheFrameInCmd := by
  intro i j s h hf hd
  have hi : exec i s = .next (transmit s.cmd s) := exec_sender_send h hf
  have hj : exec j s = .next (transmit s.cmd s) := exec_commandFrame (encode_of_decodeCF hd).2 h.1
  exact ⟨hi.trans hj.symm, _, hi, rfl, rfl⟩

theorem spaced_iff (s : State) :
    spaced s = true ↔ s.ph = .build ∨ s.ph = .send → ∀ tm, timingOf s.params s.variant = some tm →
      tm.warmup ≤ s.now ∧ s.lastreq + tm.minInterval ≤ s.now := by
  rw [spaced]
  cases timingOf s.params s.variant with
  | none => simp
  | some tm => simp [or_iff_not_imp_left]

/-- Between its gate and the end of SEND a known variant is warm and past its interval (R175). -/
theorem Invariant.ready_of_timing {s : State} {tm : Timing} (h : Invariant s) (hp : s.ph = .build ∨ s.ph = .send)
    (ht : timingOf s.params s.variant = some tm) : tm.warmup ≤ s.now ∧ s.lastreq + tm.minInterval ≤ s.now :=
  (spaced_iff s).1 h.ready hp tm ht

/-- Settles O37: before, the spacing of the invariant is Ready; after, the stamp is NOW and MIN_INTERVAL[v] > 0. -/
theorem transmissionEntersCoolingDown : Obligations.TransmissionEntersCoolingDown := by
  intro s t tm hinv hp ht hexec
  obtain ⟨f, rfl⟩ : ∃ f, t = transmit f s := by
    have of_frame {i : Instr} {f : Frame} (he : encode i = .cf f) (h : exec i s = .next t) : ∃ f, t = transmit f s := by
      rw [exec_commandFrame he hp] at h
      injection h with h
      exact ⟨f, h.symm⟩
    obtain h | h | h | h | ⟨n, h⟩ := hexec
    all_goals exact of_frame rfl h
  obtain ⟨hwarm, hinterval⟩ := hinv.ready_of_timing (.inr hp) ht
  obtain ⟨hpos, _⟩ := (timingLegal_iff tm).1 (timingLegal_of_timingOf hinv.params ht)
  have ht' : timingOf (transmit f s).params (transmit f s).variant = some tm := ht
  rw [readiness_ready_iff_of_timing ht, readiness_coolingDown_iff_of_timing ht', transmit_now, transmit_lastreq]
  omega

/-! ### Phase SETTLE -/

theorem exec_set_settle {i : Instr} {s : State} {a : BitVec 32} {e : Bool} {r : BitVec 31} {v : Int}
    (hi : i = .setabc e r ∨ i = .setbg a ∨ i = .setspan v) (h : running i .settle s) :
    exec i s = .next (returnVoid (settleDelay s)) := by
  obtain rfl | rfl | rfl := hi <;> exact hostOp_of_running _ h (by decide)

theorem exec_rduart_settle {a : BitVec 32} {s : State} (h : running (.rduart a) .settle s) :
    exec (.rduart a) s = .next (beginParse (settleDelay s)) :=
  hostOp_of_running _ h (by decide)

/-- Settles O49: SETTLE is 100 ms. -/
theorem settleDelayThenGoOn : Obligations.SettleDelayThenGoOn :=
  ⟨fun _ _ _ _ _ _ => exec_set_settle, fun _ _ => exec_rduart_settle⟩

end Sys2Proof.Machine
end

section
/-! PROOFS. PARSE_RESPONSE and RDPWM phase by phase (spec/42_frame_parse.md, spec/44_pwm.md). -/

namespace Sys2Proof.Machine

/-! ### Phase WAIT -/

theorem exec_rduart_wait {a : BitVec 32} {s : State} (h : running (.rduart a) .wait s) :
    exec (.rduart a) s = .next (waitLine s) :=
  hostOp_of_running _ h (by decide)

theorem waitLine_of_byte {s : State} (hq : s.rxq ≠ []) : waitLine s = goto .resync s := by
  obtain ⟨he, _⟩ | ⟨he, _⟩ | ⟨_, hw⟩ := waitLine_cases s
  · exact absurd he hq
  · exact absurd he hq
  · exact hw

theorem waitLine_of_poll {s : State} (hq : s.rxq = []) (hk : s.k ≠ 10) :
    waitLine s = { sleep s.params.pollStep s with k := s.k + 1 } := by
  obtain ⟨_, he, _⟩ | ⟨_, _, hw⟩ | ⟨he, _⟩ := waitLine_cases s
  · exact absurd he hk
  · exact hw
  · exact absurd hq he

theorem waitLine_of_expired {s : State} (hq : s.rxq = []) (hk : s.k = 10) : waitLine s = toFlush .noResponse s := by
  obtain ⟨_, _, hw⟩ | ⟨_, he, _⟩ | ⟨he, _⟩ := waitLine_cases s
  · exact hw
  · exact absurd hk he
  · exact absurd hq he

/-- Settles O50: the three cases of `waitLine`. -/
theorem waitLoopSamplesAndSleeps : Obligations.WaitLoopSamplesAndSleeps := by
  intro a s h
  rw [exec_rduart_wait h]
  refine ⟨fun hq => ?_, fun hq hk => ?_, fun hq hk => ?_⟩
  · rw [waitLine_of_byte hq]
    rfl
  · have hrxq : s.rxq ++ s.act.arrive = s.act.arrive := by rw [hq, List.nil_append]
    rw [waitLine_of_poll hq hk, ← hrxq]
    rfl
  · rw [waitLine_of_expired hq hk]
    rfl

/-! ### Phase READ -/

theorem exec_rduart_read {a : BitVec 32} {s : State} (h : running (.rduart a) .read s) :
    exec (.rduart a) s = .next (readLine s) :=
  hostOp_of_running _ h (by decide)

theorem readLine_of_empty {s : State} (hq : s.rxq = []) : readLine s = toFlush .incomplete s := by
  obtain ⟨_, h⟩ | ⟨he, _⟩ := readLine_cases s
  · exact h
  · exact absurd hq he

/-- The state after `RxReadN(9)` with the bytes it returned stored in RESP (R144, R145). -/
def readInto (s : State) : State :=
  { (rxReadN 9 s).2 with resp := s.resp.overwrite (rxReadN 9 s).1 }

theorem readLine_of_frame {s : State} (hq : s.rxq ≠ []) (hc : readCount 9 s = 9) :
    readLine s = goto .check (readInto s) := by
  obtain ⟨he, _⟩ | ⟨_, _, rfl, ⟨hlt, _⟩ | ⟨_, h⟩⟩ := readLine_cases s
  · exact absurd he hq
  · omega
  · exact h

theorem readLine_of_short {s : State} (hq : s.rxq ≠ []) (hc : readCount 9 s ≠ 9) :
    readLine s = toFlush .incomplete (readInto s) := by
  obtain ⟨he, _⟩ | ⟨_, _, rfl, ⟨_, h⟩ | ⟨h9, _⟩⟩ := readLine_cases s
  · exact absurd he hq
  · exact h
  · exact absurd h9 hc

theorem readInto_resp (s : State) :
    (readInto s).resp.toList.take (readCount 9 s) = (s.rxq ++ s.act.arrive).take (readCount 9 s) := by
  have hlen : ((s.rxq ++ s.act.arrive).take (readCount 9 s)).length = readCount 9 s := by
    rw [List.length_take, List.length_append]
    have := readCount_bounds 9 s
    omega
  have hle : ((s.rxq ++ s.act.arrive).take (readCount 9 s)).length ≤ 9 := hlen.trans_le (readCount_bounds 9 s).2.1
  change (s.resp.overwrite ((s.rxq ++ s.act.arrive).take (readCount 9 s))).toList.take (readCount 9 s) = _
  rw [toList_overwrite _ _ hle]
  exact List.take_left' hlen

theorem readInto_rxq (s : State) : (readInto s).rxq = (s.rxq ++ s.act.arrive).drop (readCount 9 s) := rfl

theorem readInto_now (s : State) : (readInto s).now = s.now + min s.act.delay s.params.readnTimeout := rfl

/-- Settles O52: the count is the one of `RxReadN(9)`; RESP, RXQ and NOW are those of `readInto`. -/
theorem readTakesNineBytesOrFails : Obligations.ReadTakesNineBytesOrFails := by
  intro a s h
  rw [exec_rduart_read h]
  refine ⟨fun hq => by rw [readLine_of_empty hq]; rfl, fun hq => ?_⟩
  obtain ⟨hlo, hhi, havail⟩ := readCount_bounds 9 s
  have hnow := readInto_now s
  refine ⟨readCount 9 s, readLine s, hlo, hhi, by rwa [List.length_append], rfl, ?_⟩
  by_cases hc : readCount 9 s = 9
  · rw [readLine_of_frame hq hc]
    refine ⟨readInto_resp s, readInto_rxq s, ?_, ?_, fun _ => ⟨rfl, rfl⟩, fun hlt => absurd hc hlt.ne, rfl⟩ <;>
      rw [goto_now] <;> omega
  · rw [readLine_of_short hq hc]
    refine ⟨readInto_resp s, readInto_rxq s, ?_, ?_, fun h9 => absurd h9 hc, fun _ => ⟨rfl, rfl⟩, rfl⟩ <;>
      rw [toFlush_now] <;> omega

/-! ### Phase CHECK -/

theorem exec_resp_check {s : State} (r : Frame) (hp : s.ph = .check) : exec (.resp r) s = .next (checkLine r s) := by
  simp [exec, execResp, checkFrame, hp]

theorem checkLine_of_match {r : Frame} (s : State) (h : r.b8 = checksum r) : checkLine r s = toFlush .ok s :=
  if_pos ((accepted_iff r).2 h)

theorem checkLine_of_mismatch {r : Frame} (s : State) (h : r.b8 ≠ checksum r) :
    checkLine r s = toFlush .checksumMismatch { s with lasttemp := s.params.codes.checksumMismatch } :=
  if_neg fun ha => h ((accepted_iff r).1 ha)

/-- Settles O38: byte 8 is the checksum exactly where `checksum_eq_iff` says, and CHECK looks at nothing else. -/
theorem responseIsAcceptedByChecksumAlone : Obligations.ResponseIsAcceptedByChecksumAlone := by
  intro s r hp S
  have hb8 : r.b8.toNat < 256 := r.b8.isLt
  have hiff : r.b8.toNat = (0x100 - S % 256) % 256 ↔ r.b8 = checksum r := by
    rw [← BitVec.toNat_inj, checksum_toNat]
    exact Iff.rfl
  have hzero : r.b8.toNat = (0x100 - S % 256) % 256 ↔ (S + r.b8.toNat) % 256 = 0 := by
    clear_value S
    omega
  refine ⟨hiff, hzero, fun h => ?_, fun h => ?_⟩
  · rw [exec_resp_check r hp, checkLine_of_match s (hiff.1 h)]
    rfl
  · rw [exec_resp_check r hp, checkLine_of_mismatch s (mt hiff.2 h)]
    rfl

/-! ### Phases FLUSH and EXTRACT -/

theorem exec_rduart_flush {a : BitVec 32} {s : State} (h : running (.rduart a) .flush s) :
    exec (.rduart a) s = .next (flushLine s) :=
  hostOp_of_running _ h (by decide)

theorem exec_rduart_extract {a : BitVec 32} {s : State} (h : running (.rduart a) .extract s) :
    exec (.rduart a) s = .next (extractLine s) :=
  hostOp_of_running _ h (by decide)

/-- Settles O53: the two ends of the flush, and `extractLine_eq`. -/
theorem flushAndExtractEndTheRead : Obligations.FlushAndExtractEndTheRead := by
  refine ⟨fun a s h => ⟨fun hok => ?_, fun hfail => ?_⟩, fun a s h => ?_⟩
  · rw [exec_rduart_flush h, flushLine_ok s hok]
    rfl
  · rw [exec_rduart_flush h, flushLine_failed s hfail]
    rfl
  · rw [exec_rduart_extract h, extractLine_eq]
    rfl

/-- Settles O39: `extractLine_eq` reads bytes 2, 3 and 4 of RESP only. -/
theorem sensorStatusByteHasNoEffect : Obligations.SensorStatusByteHasNoEffect := by
  intro s a f g h h2 h3 h4
  have hppm : f.ppm = g.ppm := by rw [Frame.ppm, Frame.ppm, h2, h3]
  have htemp : f.temperature = g.temperature := by rw [Frame.temperature, Frame.temperature, h4]
  have hextract (r : Frame) : exec (.rduart a) { s with resp := r } =
      .next (deliver ⟨.ok, BitVec.ofInt 32 r.ppm⟩ { s with resp := r, lasttemp := r.temperature }) := by
    rw [exec_rduart_extract (s := { s with resp := r }) h, extractLine_eq]
  refine ⟨_, _, hextract f, hextract g, ?_, htemp, rfl, rfl⟩
  rw [deliver_results, deliver_results, hppm]

/-! ### RDPWM -/

theorem exec_rdpwm_gate {a : BitVec 32} {s : State} (h : running (.rdpwm a) .gate s) :
    exec (.rdpwm a) s = .next (afterGate (gatePwm s) s (goto .measure)) :=
  hostOp_of_running _ h (by decide)

theorem exec_rdpwm_measure {a : BitVec 32} {s : State} (h : running (.rdpwm a) .measure s) :
    exec (.rdpwm a) s = .next (measureLine s) :=
  hostOp_of_running _ h (by decide)

theorem exec_rdpwm_scale {a : BitVec 32} {s : State} (h : running (.rdpwm a) .scale s) :
    exec (.rdpwm a) s = .next (scaleLine s) :=
  hostOp_of_running _ h (by decide)

theorem gatePwm_of_not_configured {s : State} (hc : s.cfg.pwm = false) : gatePwm s = some .pwmNotConfigured :=
  if_pos hc

theorem measureLine_of_zero {s : State} (hd : pulseResult s.params.pwmLevel s.params.pwmTimeout s = 0) :
    measureLine s = { during s.act.delay s with th := 0 } := by
  obtain ⟨_, rfl, ⟨_, h⟩ | ⟨hne, _⟩⟩ := measureLine_cases s
  · exact h
  · exact absurd hd hne

theorem measureLine_of_pulse {s : State} (hd : pulseResult s.params.pwmLevel s.params.pwmTimeout s ≠ 0) :
    measureLine s =
      goto .scale { during s.act.delay s with th := pulseResult s.params.pwmLevel s.params.pwmTimeout s } := by
  obtain ⟨_, rfl, ⟨h0, _⟩ | ⟨_, h⟩⟩ := measureLine_cases s
  · exact absurd h0 hd
  · exact h

/-- MEASURE stays in its phase exactly where the pulse was 0 (R193). -/
theorem measureLine_eq {s : State} (hp : s.ph = .measure) :
    measureLine s =
      { during s.act.delay s with
        th := pulseResult s.params.pwmLevel s.params.pwmTimeout s
        ph := if pulseResult s.params.pwmLevel s.params.pwmTimeout s = 0 then .measure else .scale } := by
  by_cases hd : pulseResult s.params.pwmLevel s.params.pwmTimeout s = 0
  · rw [measureLine_of_zero hd, if_pos hd, hd, ← hp]
    rfl
  · rw [measureLine_of_pulse hd, if_neg hd]
    rfl

/-- SCALE delivers the integer of R192 exactly where the port holds it (R309). -/
theorem portVal_pwmDecode {th : Nat} (h : (th : Int) ≤ 1073741825) :
    (portVal (pwmDecode th)).toInt = 2 * ((th : Int) - 2) := by
  rw [portVal_toInt _ (by rw [pwmDecode_eq]; omega) (by rw [pwmDecode_eq]; omega), pwmDecode_eq]

/-- Settles O54: one line a phase; a pulse is `pulseResult`, the value on the port `portVal_pwmDecode`. -/
theorem rdpwmMeasuresAndScales : Obligations.RdpwmMeasuresAndScales := by
  intro a s
  refine ⟨fun h hc => ?_, fun h hc => ?_, fun h => ?_, fun h => ⟨_, exec_rdpwm_scale h, portVal_pwmDecode⟩⟩
  · rw [exec_rdpwm_gate h, gatePwm_of_not_configured hc]
    rfl
  · rw [exec_rdpwm_gate h, (gatePwm_none s).2 hc]
    rfl
  · refine ⟨pulseResult s.params.pwmLevel s.params.pwmTimeout s, pulseResult_le _ _ s, fun hlevel hle => ?_, ?_⟩
    · rw [hlevel]
      exact min_eq_left hle
    · rw [exec_rdpwm_measure h, measureLine_eq h.1]
      rfl

/-! ### Ignored argument bits -/

section
variable (s : State) (x y : Option Instr)

/-- The lines of the pseudocode read the operation in progress nowhere: states that differ in it alone stay such. -/
theorem afterGate_ignores_op (g : Option Status) (go : State → State)
    (h : withoutOp (.next (go { s with op := x })) = withoutOp (.next (go { s with op := y }))) :
    withoutOp (.next (afterGate g { s with op := x } go)) = withoutOp (.next (afterGate g { s with op := y } go)) := by
  cases g with
  | none => exact h
  | some st => rfl

theorem waitLine_ignores_op :
    withoutOp (.next (waitLine { s with op := x })) = withoutOp (.next (waitLine { s with op := y })) := by
  by_cases hq : s.rxq = []
  · by_cases hk : s.k = 10
    · rw [waitLine_of_expired (s := { s with op := x }) hq hk, waitLine_of_expired (s := { s with op := y }) hq hk]
      rfl
    · rw [waitLine_of_poll (s := { s with op := x }) hq hk, waitLine_of_poll (s := { s with op := y }) hq hk]
      rfl
  · rw [waitLine_of_byte (s := { s with op := x }) hq, waitLine_of_byte (s := { s with op := y }) hq]
    rfl

theorem resyncLine_ignores_op : withoutOp (resyncLine { s with op := x }) = withoutOp (resyncLine { s with op := y }) := by
  obtain ⟨hq, _⟩ | ⟨rest, hq, _⟩ | ⟨b, rest, hq, hb, _⟩ := resyncLine_cases s
  · rw [resyncLine_of_empty (s := { s with op := x }) hq, resyncLine_of_empty (s := { s with op := y }) hq]
    rfl
  · rw [resyncLine_of_marker (s := { s with op := x }) hq, resyncLine_of_marker (s := { s with op := y }) hq]
    rfl
  · rw [resyncLine_of_stray (s := { s with op := x }) hq hb, resyncLine_of_stray (s := { s with op := y }) hq hb]
    rfl

theorem readLine_ignores_op :
    withoutOp (.next (readLine { s with op := x })) = withoutOp (.next (readLine { s with op := y })) := by
  by_cases hq : s.rxq = []
  · rw [readLine_of_empty (s := { s with op := x }) hq, readLine_of_empty (s := { s with op := y }) hq]
    rfl
  · by_cases hc : readCount 9 s = 9
    · rw [readLine_of_frame (s := { s with op := x }) hq hc, readLine_of_frame (s := { s with op := y }) hq hc]
      rfl
    · rw [readLine_of_short (s := { s with op := x }) hq hc, readLine_of_short (s := { s with op := y }) hq hc]
      rfl

theorem checkLine_ignores_op (r : Frame) :
    withoutOp (.next (checkLine r { s with op := x })) = withoutOp (.next (checkLine r { s with op := y })) := by
  by_cases h : r.b8 = checksum r
  · rw [checkLine_of_match { s with op := x } h, checkLine_of_match { s with op := y } h]
    rfl
  · rw [checkLine_of_mismatch { s with op := x } h, checkLine_of_mismatch { s with op := y } h]
    rfl

theorem flushLine_ignores_op :
    withoutOp (.next (flushLine { s with op := x })) = withoutOp (.next (flushLine { s with op := y })) := by
  by_cases h : s.pend = .ok
  · rw [flushLine_ok { s with op := x } h, flushLine_ok { s with op := y } h]
    rfl
  · rw [flushLine_failed { s with op := x } h, flushLine_failed { s with op := y } h]
    rfl

theorem measureLine_ignores_op :
    withoutOp (.next (measureLine { s with op := x })) = withoutOp (.next (measureLine { s with op := y })) := by
  by_cases hd : pulseResult s.params.pwmLevel s.params.pwmTimeout s = 0
  · rw [measureLine_of_zero (s := { s with op := x }) hd, measureLine_of_zero (s := { s with op := y }) hd]
    rfl
  · rw [measureLine_of_pulse (s := { s with op := x }) hd, measureLine_of_pulse (s := { s with op := y }) hd]
    rfl

end

/-- Two operations whose lines agree, run from states that differ in the operation alone, agree. -/
theorem hostOp_ignores_op (s : State) {i j : Instr} {line line' : Phase → Result}
    (h : ∀ p, withoutOp (line p) = withoutOp (line' p)) :
    withoutOp (hostOp i { s with op := some i } line) = withoutOp (hostOp j { s with op := some j } line') := by
  by_cases hp : s.ph = .idle
  · rw [hostOp_idle i { s with op := some i } line hp, hostOp_idle j { s with op := some j } line' hp]
    rfl
  · rw [hostOp_running i { s with op := some i } line hp rfl, hostOp_running j { s with op := some j } line' hp rfl]
    exact h s.ph

theorem setLines_ignores_op (s : State) (x y : Option Instr) (g : Option Status) (f : Frame) (p : Phase) :
    withoutOp (setLines g f { s with op := x } p) = withoutOp (setLines g f { s with op := y } p) := by
  cases p with
  | gate => exact afterGate_ignores_op s x y g _ rfl
  | _ => rfl

theorem rduart_ignores_arg (s : State) (a b : BitVec 32) :
    withoutOp (exec (.rduart a) { s with op := some (.rduart a) }) =
      withoutOp (exec (.rduart b) { s with op := some (.rduart b) }) := by
  refine hostOp_ignores_op s fun p => ?_
  cases p with
  | gate => exact afterGate_ignores_op s _ _ (gateSerialReady s) _ rfl
  | wait => exact waitLine_ignores_op s _ _
  | resync => exact resyncLine_ignores_op s _ _
  | read => exact readLine_ignores_op s _ _
  | check => exact checkLine_ignores_op s _ _ s.resp
  | flush => exact flushLine_ignores_op s _ _
  | _ => rfl

theorem rdpwm_ignores_arg (s : State) (a b : BitVec 32) :
    withoutOp (exec (.rdpwm a) { s with op := some (.rdpwm a) }) =
      withoutOp (exec (.rdpwm b) { s with op := some (.rdpwm b) }) := by
  refine hostOp_ignores_op s fun p => ?_
  cases p with
  | gate => exact afterGate_ignores_op s _ _ (gatePwm s) _ rfl
  | measure => exact measureLine_ignores_op s _ _
  | _ => rfl

theorem gettemp_ignores_arg (s : State) (a b : BitVec 32) :
    withoutOp (exec (.gettemp a) { s with op := some (.gettemp a) }) =
      withoutOp (exec (.gettemp b) { s with op := some (.gettemp b) }) := by
  refine hostOp_ignores_op s fun p => ?_
  cases p with
  | gate => exact afterGate_ignores_op s _ _ (gateSerialWarm s) _ rfl
  | _ => rfl

/-- Settles O41: an argument reaches the state through the operation in progress alone, which no line reads. -/
theorem ignoredArgumentBitsChangeNothing : Obligations.IgnoredArgumentBitsChangeNothing := by
  intro s a b e p q
  refine ⟨rduart_ignores_arg s a b, rdpwm_ignores_arg s a b, gettemp_ignores_arg s a b, ?setbg, ?ispre, ?isrdy, ?setabc⟩
  case setbg => exact hostOp_ignores_op s fun ph => setLines_ignores_op s _ _ (gateSerialReady s) frameBg ph
  case setabc => exact hostOp_ignores_op s fun ph => setLines_ignores_op s _ _ (gateSerialReady s) (frameAbc e) ph
  case ispre | isrdy => exact hostOp_ignores_op s fun ph => by cases ph <;> rfl

end Sys2Proof.Machine
end

section
/-! PROOFS. What the block's own part of a step can be, and what it writes (spec/10_state.md): the claims about all steps
are proved by cases on `Move` and `Effect`. -/

namespace Sys2Proof.Machine

/-! ### The block's part of a step -/

/-- From `s` the block goes to the given state, before the environment acts. -/
inductive Move (s : State) : State → Prop
  /-- the host issues nothing -/
  | silent (hp : s.ph = .idle) : Move s s
  /-- the host waits -/
  | hostWait (d : Nat) (rest : List HostLine) (hp : s.ph = .idle) : Move s (sleep d { s with host := rest })
  /-- the command port takes a host operation -/
  | accept (i : Instr) (rest : List HostLine) (hp : s.ph = .idle) (hi : allows i .gate = true) :
      Move s (accept i { s with host := rest })
  /-- the frame in CMD is transmitted -/
  | send (i : Instr) (hp : s.ph = .send) (hc : decodeCF s.cmd = .ok i) : Move s (transmit s.cmd s)
  /-- the frame in RESP is examined -/
  | check (hp : s.ph = .check) : Move s (checkLine s.resp s)
  /-- a line of the operation in progress -/
  | line (i : Instr) (t : State) (hidle : s.ph ≠ .idle) (hsend : s.ph ≠ .send) (hcheck : s.ph ≠ .check)
      (ho : s.op = some i) (he : exec i s = .next t) : Move s t

/-- A step is a move, then the environment acts (R63). -/
theorem step_move {s t : State} (h : step s = .next t) : ∃ v, Move s v ∧ t = environment v := by
  obtain ⟨i, u, v, hf, he, rfl⟩ | ⟨u, hf, rfl⟩ := step_next s t h
  · refine ⟨v, ?_, rfl⟩
    obtain ⟨hp, ⟨w, rest, _, hi, rfl⟩ | ⟨_, _, _, hi, _⟩ | ⟨_, hi, _⟩⟩ | ⟨hp, rfl, j, hi, hc⟩ | ⟨hp, rfl, hi⟩ |
      ⟨hidle, hsend, hcheck, rfl, hi, _⟩ := fetch_next s u (some i) hf
    · obtain rfl := Option.some.inj hi
      obtain ⟨_, ha⟩ | ⟨_, hrefused⟩ := decodeHC_cases w
      · rw [exec_of_idle (s := { s with host := rest }) ha hp] at he
        injection he with he
        exact he ▸ .accept _ rest hp ha
      · rw [hrefused] at he
        cases he
    · cases hi
    · cases hi
    · obtain rfl := Option.some.inj hi
      rw [exec_commandFrame (encode_of_decodeCF hc).2 hp] at he
      injection he with he
      exact he ▸ .send i hp hc
    · obtain rfl := Option.some.inj hi
      rw [exec_resp_check u.resp hp] at he
      injection he with he
      exact he ▸ .check hp
    · exact .line i v hidle hsend hcheck hi.symm he
  · refine ⟨u, ?_, rfl⟩
    obtain ⟨hp, ⟨_, _, _, hi, _⟩ | ⟨d, rest, _, _, rfl⟩ | ⟨_, _, rfl⟩⟩ | ⟨_, _, _, hi, _⟩ | ⟨_, _, hi⟩ |
      ⟨_, _, _, _, hi, hne⟩ := fetch_next s u none hf
    · cases hi
    · exact .hostWait d rest hp
    · exact .silent hp
    · cases hi
    · cases hi
    · exact absurd hi.symm hne

theorem Move.later {s v : State} (m : Move s v) : Later s v := by
  cases m with
  | silent | accept => exact .of_now_eq rfl rfl rfl rfl
  | hostWait d => exact .of_now_add (d + s.act.delay) rfl rfl rfl rfl
  | send => exact .of_now_add s.act.delay rfl rfl rfl rfl
  | check => exact checkLine_later s.resp s
  | line i _ _ _ _ _ he => exact (exec_line i s v he).later

theorem Move.eq_transmit {s v : State} (m : Move s v) (hp : s.ph = .send) : v = transmit s.cmd s := by
  cases m with
  | send => rfl
  | line _ _ _ hsend => exact absurd hp hsend
  | silent hp' | hostWait _ _ hp' | accept _ _ hp' | check hp' => exact absurd (hp'.symm.trans hp) (by decide)

theorem Move.eq_checkLine {s v : State} (m : Move s v) (hp : s.ph = .check) : v = checkLine s.resp s := by
  cases m with
  | check => rfl
  | line _ _ _ _ hcheck => exact absurd hp hcheck
  | silent hp' | hostWait _ _ hp' | accept _ _ hp' | send _ hp' => exact absurd (hp'.symm.trans hp) (by decide)

/-! ### What a move writes -/

/-- The registers that few moves write are the same in both states. -/
structure Kept (s t : State) : Prop where
  lastreq : t.lastreq = s.lastreq
  lasttemp : t.lasttemp = s.lasttemp
  txs : t.txs = s.txs
  results : t.results = s.results
  op : t.op = s.op

theorem waitLine_kept (s : State) : Kept s (waitLine s) := by
  obtain ⟨_, _, he⟩ | ⟨_, _, he⟩ | ⟨_, he⟩ := waitLine_cases s <;> rw [he] <;> exact ⟨rfl, rfl, rfl, rfl, rfl⟩

theorem readLine_kept (s : State) : Kept s (readLine s) := by
  obtain ⟨_, he⟩ | ⟨_, u, rfl, ⟨_, he⟩ | ⟨_, he⟩⟩ := readLine_cases s <;> rw [he] <;> exact ⟨rfl, rfl, rfl, rfl, rfl⟩

theorem measureLine_kept (s : State) : Kept s (measureLine s) := by
  obtain ⟨_, _, ⟨_, he⟩ | ⟨_, he⟩⟩ := measureLine_cases s <;> rw [he] <;> exact ⟨rfl, rfl, rfl, rfl, rfl⟩

/-- The result words an operation can end with, by the phase it ends in (R93, R258). -/
inductive Answer (s : State) : ResultWord → Prop
  /-- a gate, BUILD_SPAN or the parse has failed -/
  | failure (st : Status) (hst : st ≠ .ok) (hp : s.ph = .gate ∨ s.ph = .build ∨ s.ph = .flush) : Answer s ⟨st, 0⟩
  /-- a set operation has no value -/
  | void (hp : s.ph = .settle) : Answer s ⟨.ok, 0⟩
  /-- RDUART -/
  | ppm (hp : s.ph = .extract) : Answer s ⟨.ok, portVal s.resp.ppm⟩
  /-- RDPWM -/
  | pwm (hp : s.ph = .scale) : Answer s ⟨.ok, portVal (pwmDecode s.th)⟩
  /-- GETTEMP -/
  | cache (a : BitVec 32) (hp : s.ph = .gate) (ho : s.op = some (.gettemp a)) : Answer s ⟨.ok, portVal s.lasttemp⟩
  /-- ISPRE -/
  | preheating (a : BitVec 32) (hp : s.ph = .gate) (ho : s.op = some (.ispre a)) :
      Answer s ⟨.ok, portVal (boolVal (isPreheating s))⟩
  /-- ISRDY -/
  | ready (a : BitVec 32) (hp : s.ph = .gate) (ho : s.op = some (.isrdy a)) :
      Answer s ⟨.ok, portVal (boolVal (isReady s))⟩

/-- A failure comes with the value 0 (R93, R258). -/
theorem Answer.val_of_failure {s : State} {r : ResultWord} (h : Answer s r) (hst : r.st ≠ .ok) : r.val = 0 := by
  cases h with
  | failure => rfl
  | _ => exact absurd rfl hst

/-- What a move does to LASTREQ, LASTTEMP, TXS, the result port and the operation in progress: one writer each. -/
inductive Effect (s t : State) : Prop
  /-- nothing -/
  | quiet (h : Kept s t)
  /-- an operation begins -/
  | accepted (hp : s.ph = .idle) (h : Kept { s with op := t.op } t)
  /-- TXS grows by CMD and LASTREQ is stamped (R30, R36) -/
  | sent (i : Instr) (hp : s.ph = .send) (hc : decodeCF s.cmd = .ok i)
      (h : Kept { s with lastreq := t.now, txs := s.txs ++ s.cmd.toList } t)
  /-- the validator's mismatch invalidates the cache (R148) -/
  | invalidated (hp : s.ph = .check) (hbad : s.resp.b8 ≠ checksum s.resp)
      (h : Kept { s with lasttemp := s.params.codes.checksumMismatch } t)
  /-- an operation ends with a result word, the extraction also with a temperature (R93, R214) -/
  | delivered (r : ResultWord) (hr : Answer s r) (ho : s.op ≠ none) (hp : t.ph = .idle)
      (htemp : t.lasttemp = s.lasttemp ∨
        s.ph = .extract ∧ (∃ a, s.op = some (.rduart a)) ∧ t.lasttemp = s.resp.temperature)
      (h : Kept { s with lasttemp := t.lasttemp, results := s.results ++ [r], op := none } t)

theorem checkLine_effect {s : State} (hp : s.ph = .check) : Effect s (checkLine s.resp s) := by
  by_cases hb : s.resp.b8 = checksum s.resp
  · rw [checkLine_of_match s hb]
    exact .quiet ⟨rfl, rfl, rfl, rfl, rfl⟩
  · rw [checkLine_of_mismatch s hb]
    exact .invalidated hp hb ⟨rfl, rfl, rfl, rfl, rfl⟩

theorem flushLine_effect {s : State} (hp : s.ph = .flush) (ho : s.op ≠ none) : Effect s (flushLine s) := by
  by_cases hok : s.pend = .ok
  · rw [flushLine_ok s hok]
    exact .quiet ⟨rfl, rfl, rfl, rfl, rfl⟩
  · rw [flushLine_failed s hok]
    exact .delivered _ (.failure _ hok (.inr (.inr hp))) ho rfl (.inl rfl) ⟨rfl, rfl, rfl, rfl, rfl⟩

/-- Of the lines of an operation in progress, those that deliver end it. -/
theorem Line.effect {i : Instr} {s v : State} (l : Line i s v) (hidle : s.ph ≠ .idle) (hsend : s.ph ≠ .send)
    (hcheck : s.ph ≠ .check) (ho : s.op = some i) : Effect s v := by
  have hop : s.op ≠ none := by simp [ho]
  cases l with
  | accept hp => exact absurd hp hidle
  | send _ hp => exact absurd hp hsend
  | check _ hp => exact absurd hp hcheck
  | toBuild | toMeasure | build | settleRead | resyncEnd | resyncPop => exact .quiet ⟨rfl, rfl, rfl, rfl, rfl⟩
  | wait => exact .quiet (waitLine_kept s)
  | read => exact .quiet (readLine_kept s)
  | measure => exact .quiet (measureLine_kept s)
  | flush _ _ hp => exact flushLine_effect hp hop
  | fail st hp _ hst =>
    exact .delivered _ (.failure st hst (.inl hp)) hop rfl (.inl rfl) ⟨rfl, rfl, rfl, rfl, rfl⟩
  | buildFail v _ hp =>
    exact .delivered _ (.failure .badSpanValue (by decide) (.inr (.inl hp))) hop rfl (.inl rfl) ⟨rfl, rfl, rfl, rfl, rfl⟩
  | settleSet hp => exact .delivered _ (.void hp) hop rfl (.inl rfl) ⟨rfl, rfl, rfl, rfl, rfl⟩
  | scale _ _ hp => exact .delivered _ (.pwm hp) hop rfl (.inl rfl) ⟨rfl, rfl, rfl, rfl, rfl⟩
  | extract a hi hp =>
    exact .delivered _ (.ppm hp) hop rfl (.inr ⟨hp, ⟨a, hi ▸ ho⟩, rfl⟩) ⟨rfl, rfl, rfl, rfl, rfl⟩
  | answer v hp _ hv =>
    obtain ⟨a, ⟨rfl, rfl⟩ | ⟨rfl, rfl⟩ | ⟨rfl, rfl⟩⟩ := hv
    · exact .delivered _ (.cache a hp ho) hop rfl (.inl rfl) ⟨rfl, rfl, rfl, rfl, rfl⟩
    · exact .delivered _ (.preheating a hp ho) hop rfl (.inl rfl) ⟨rfl, rfl, rfl, rfl, rfl⟩
    · exact .delivered _ (.ready a hp ho) hop rfl (.inl rfl) ⟨rfl, rfl, rfl, rfl, rfl⟩

theorem Move.effect {s v : State} (m : Move s v) : Effect s v := by
  cases m with
  | silent | hostWait => exact .quiet ⟨rfl, rfl, rfl, rfl, rfl⟩
  | accept _ _ hp => exact .accepted hp ⟨rfl, rfl, rfl, rfl, rfl⟩
  | send i hp hc => exact .sent i hp hc ⟨rfl, rfl, rfl, rfl, rfl⟩
  | check hp => exact checkLine_effect hp
  | line i _ hidle hsend hcheck ho he => exact (exec_line i s v he).effect hidle hsend hcheck ho

/-! ### The obligations about registers with one writer -/

/-- Settles O27: `step_later` for the configuration and NOW, `Effect` for TXS. -/
theorem stepKeepsConfigurationAndTime : Obligations.StepKeepsConfigurationAndTime := by
  intro s t hstep
  have hlater := step_later hstep
  refine ⟨hlater.variant, hlater.cfg, hlater.params, hlater.now, ?_⟩
  obtain ⟨v, m, rfl⟩ := step_move hstep
  cases m.effect with
  | sent _ hp _ h => exact .inr ⟨hp, h.txs⟩
  | quiet h | accepted _ h | invalidated _ _ h | delivered _ _ _ _ _ h => exact .inl h.txs

/-- Settles O28: of the effects only `sent` writes LASTREQ, and SEND has no other move. -/
theorem lastreqIsStampedBySendOnly : Obligations.LastreqIsStampedBySendOnly := by
  intro s t hstep
  obtain ⟨v, m, rfl⟩ := step_move hstep
  refine ⟨fun hp => ?_, fun hp => ?_⟩
  · cases m.effect with
    | sent _ hp' => exact absurd hp' hp
    | quiet h | accepted _ h | invalidated _ _ h | delivered _ _ _ _ _ h => exact h.lastreq
  · obtain rfl := m.eq_transmit hp
    exact ⟨Nat.le_add_right _ _, Nat.le_add_right _ _, rfl⟩

/-- Settles O29: of the effects only `invalidated` and the extraction write LASTTEMP. -/
theorem lasttempHasTwoWriters : Obligations.LasttempHasTwoWriters := by
  intro s t hstep
  obtain ⟨v, m, rfl⟩ := step_move hstep
  cases m.effect with
  | quiet h | accepted _ h | sent _ _ _ h => exact .inl h.lasttemp
  | invalidated hp hbad h => exact .inr (.inl ⟨hp, hbad, h.lasttemp⟩)
  | delivered _ _ _ _ htemp => exact htemp.imp id .inr

/-- Settles O30: TXS grows in SEND only (O27); there the invariant's spacing bounds NOW, and the stamp is no earlier. -/
theorem transmissionsAreSpaced : Obligations.TransmissionsAreSpaced := by
  intro s t tm hinv hstep ht htxs
  obtain ⟨_, _, _, _, hsame | ⟨hp, _⟩⟩ := stepKeepsConfigurationAndTime s t hstep
  · exact absurd hsame htxs
  · obtain ⟨hwarm, hinterval⟩ := hinv.ready_of_timing (.inr hp) ht
    obtain ⟨hstamp, _⟩ := (lastreqIsStampedBySendOnly s t hstep).2 hp
    omega

theorem allows_idle (i : Instr) : allows i .idle = false := by
  cases i <;> rfl

/-- The operation in progress is in one of its phases (R24). -/
theorem Invariant.allows {s : State} {i : Instr} (h : Invariant s) (ho : s.op = some i) : allows i s.ph = true := by
  have hseq := h.seq
  rwa [sequenced, ho] at hseq

theorem Invariant.op_of_idle {s : State} (h : Invariant s) (hp : s.ph = .idle) : s.op = none := by
  cases ho : s.op with
  | none => rfl
  | some i => exact absurd (h.allows ho) (by simp [hp, allows_idle])

theorem Invariant.exists_op {s : State} (h : Invariant s) (hp : s.ph ≠ .idle) :
    ∃ i, s.op = some i ∧ Machine.allows i s.ph = true := by
  cases ho : s.op with
  | none =>
    have hseq := h.seq
    rw [sequenced, ho] at hseq
    exact absurd (of_decide_eq_true hseq) hp
  | some i => exact ⟨i, rfl, h.allows ho⟩

/-- Settles O31: of the effects only `delivered` adds a result word, and it ends the operation. -/
theorem oneResultWordPerOperation : Obligations.OneResultWordPerOperation := by
  intro s t hinv hstep
  obtain ⟨v, m, rfl⟩ := step_move hstep
  cases m.effect with
  | quiet h | sent _ _ _ h | invalidated _ _ h => exact .inl ⟨h.results, .inr h.op⟩
  | accepted hp h => exact .inl ⟨h.results, .inl (hinv.op_of_idle hp)⟩
  | delivered r _ ho hp _ h => exact .inr ⟨r, h.results, ho, h.op, hp⟩

/-! ### The values on the result port -/

/-- A step that adds a result word delivers one of the answers. -/
theorem step_answer {s t : State} {r : ResultWord} (hstep : step s = .next t) (hr : t.results = s.results ++ [r]) :
    Answer s r := by
  obtain ⟨v, m, rfl⟩ := step_move hstep
  have hadded : v.results = s.results ++ [r] := hr
  cases m.effect with
  | delivered r' hr' _ _ _ h =>
    have heq : s.results ++ [r'] = s.results ++ [r] := h.results.symm.trans hadded
    have hword : r' = r := by simpa using heq
    exact hword ▸ hr'
  | quiet h | accepted _ h | sent _ _ _ h | invalidated _ _ h =>
    have heq : s.results = s.results ++ [r] := h.results.symm.trans hadded
    simp at heq

theorem checksumMismatch_neg {p : Params} (h : paramsLegal p = true) : p.codes.checksumMismatch < 0 := by
  simp only [paramsLegal, codesLegal, Bool.and_eq_true, List.all_cons, decide_eq_true_eq] at h
  obtain ⟨_, ⟨_, hneg, _⟩, _⟩ := h
  exact hneg

theorem lasttempLegal_iff (s : State) :
    lasttempLegal s = true ↔ (-40 ≤ s.lasttemp ∧ s.lasttemp ≤ 215) ∨ s.lasttemp = s.params.codes.checksumMismatch ∨
      s.lasttemp = s.params.lasttempReset := by
  simp [lasttempLegal, or_assoc]

/-- Settles O32: each answer is an integer within the 32 bits of the port, by the bounds the invariant keeps. -/
theorem resultValuesFitThePort : Obligations.ResultValuesFitThePort := by
  intro s t r hinv hstep hr htimeout hcode hreset0 hreset1
  have hanswer := step_answer hstep hr
  refine ⟨hanswer.val_of_failure, fun hp => ?settle, fun hp => ?extract, fun hp => ?scale, fun hp hok a => ?gate⟩
  case settle =>
    cases hanswer with
    | void => rfl
    | failure _ _ hp' => simp [hp] at hp'
    | ppm hp' | pwm hp' | cache _ hp' | preheating _ hp' | ready _ hp' => exact absurd (hp'.symm.trans hp) (by decide)
  case extract =>
    cases hanswer with
    | ppm =>
      obtain ⟨hlo, hhi⟩ := ppm_bounds s.resp
      exact ⟨rfl, portVal_toInt _ (by omega) (by omega)⟩
    | failure _ _ hp' => simp [hp] at hp'
    | void hp' | pwm hp' | cache _ hp' | preheating _ hp' | ready _ hp' => exact absurd (hp'.symm.trans hp) (by decide)
  case scale =>
    cases hanswer with
    | pwm =>
      obtain ⟨_, hhi⟩ := hinv.pulse hp
      exact ⟨rfl, portVal_pwmDecode (by omega), by omega⟩
    | failure _ _ hp' => simp [hp] at hp'
    | void hp' | ppm hp' | cache _ hp' | preheating _ hp' | ready _ hp' => exact absurd (hp'.symm.trans hp) (by decide)
  case gate =>
    cases hanswer with
    | cache _ _ ho =>
      have hneg := checksumMismatch_neg hinv.params
      have hlegal := (lasttempLegal_iff s).1 hinv.lasttemp
      exact ⟨fun _ => portVal_toInt _ (by omega) (by omega), by simp [ho], by simp [ho]⟩
    | preheating _ _ ho => exact ⟨by simp [ho], fun _ => portVal_boolVal _, by simp [ho]⟩
    | ready _ _ ho => exact ⟨by simp [ho], by simp [ho], fun _ => portVal_boolVal _⟩
    | failure _ hst => exact absurd hok hst
    | void hp' | ppm hp' | pwm hp' => exact absurd (hp'.symm.trans hp) (by decide)

end Sys2Proof.Machine
end

section
/-! PROOFS. PARSE_RESPONSE as a whole (spec/42_frame_parse.md R149): where each of its phases leads and what it does to
the receive queue. -/

namespace Sys2Proof.Machine

/-- Only RDUART has lines in the phases of PARSE_RESPONSE and in EXTRACT (R140, R214). -/
theorem Line.rduart_of_parse {i : Instr} {s v : State} (l : Line i s v)
    (hp : s.ph = .wait ∨ s.ph = .resync ∨ s.ph = .read ∨ s.ph = .flush ∨ s.ph = .extract) : ∃ a, i = .rduart a := by
  cases l with
  | wait a hi | resyncEnd a hi | resyncPop a _ _ hi | read a hi | flush a hi | extract a hi => exact ⟨a, hi⟩
  | accept hp' | fail _ hp' | toBuild _ hp' | answer _ hp' | toMeasure _ _ hp' | build _ hp' | buildFail _ _ hp'
  | send _ hp' | settleSet hp' | settleRead _ _ hp' | check _ hp' | measure _ _ hp' | scale _ _ hp' => simp [hp'] at hp

/-- In those phases a move is a line of RDUART. -/
theorem Move.rduart {s v : State} (m : Move s v)
    (hp : s.ph = .wait ∨ s.ph = .resync ∨ s.ph = .read ∨ s.ph = .flush ∨ s.ph = .extract) :
    ∃ a, running (.rduart a) s.ph s ∧ exec (.rduart a) s = .next v := by
  cases m with
  | line i _ _ _ _ ho he =>
    obtain ⟨a, rfl⟩ := (exec_line i s v he).rduart_of_parse hp
    exact ⟨a, ⟨rfl, ho⟩, he⟩
  | silent hp' | hostWait _ _ hp' | accept _ _ hp' | send _ hp' | check hp' => simp [hp'] at hp

section
variable {s v : State} (m : Move s v)
include m

theorem Move.eq_waitLine (hp : s.ph = .wait) : v = waitLine s := by
  obtain ⟨a, hrun, he⟩ := m.rduart (.inl hp)
  rw [exec_rduart_wait (hp ▸ hrun)] at he
  injection he with he
  exact he.symm

theorem Move.resyncLine_eq (hp : s.ph = .resync) : resyncLine s = .next v := by
  obtain ⟨a, hrun, he⟩ := m.rduart (.inr (.inl hp))
  rwa [exec_rduart_resync (hp ▸ hrun)] at he

theorem Move.eq_readLine (hp : s.ph = .read) : v = readLine s := by
  obtain ⟨a, hrun, he⟩ := m.rduart (.inr (.inr (.inl hp)))
  rw [exec_rduart_read (hp ▸ hrun)] at he
  injection he with he
  exact he.symm

theorem Move.eq_flushLine (hp : s.ph = .flush) : v = flushLine s := by
  obtain ⟨a, hrun, he⟩ := m.rduart (.inr (.inr (.inr (.inl hp))))
  rw [exec_rduart_flush (hp ▸ hrun)] at he
  injection he with he
  exact he.symm

theorem Move.eq_extractLine (hp : s.ph = .extract) : v = extractLine s := by
  obtain ⟨a, hrun, he⟩ := m.rduart (.inr (.inr (.inr (.inr hp))))
  rw [exec_rduart_extract (hp ▸ hrun)] at he
  injection he with he
  exact he.symm

end

/-- The act of the environment is the same before and after the block's part of a step; in the phases of
PARSE_RESPONSE the block delivers nothing and stays in them. -/
structure Parsing (s v : State) : Prop where
  results : v.results = s.results
  ph : v.ph = .wait ∨ v.ph = .resync ∨ v.ph = .read ∨ v.ph = .check ∨ v.ph = .flush
  act : v.act = s.act

theorem waitLine_parsing {s : State} (hp : s.ph = .wait) :
    Parsing s (waitLine s) ∧ ((waitLine s).rxq = s.rxq ∨ (waitLine s).rxq = s.rxq ++ s.act.arrive) := by
  obtain ⟨_, _, he⟩ | ⟨_, _, he⟩ | ⟨_, he⟩ := waitLine_cases s <;> rw [he]
  · exact ⟨⟨rfl, by simp, rfl⟩, .inl rfl⟩
  · exact ⟨⟨rfl, .inl hp, rfl⟩, .inr rfl⟩
  · exact ⟨⟨rfl, by simp, rfl⟩, .inl rfl⟩

theorem resyncLine_parsing {s v : State} (hp : s.ph = .resync) (h : resyncLine s = .next v) :
    Parsing s v ∧ (v.rxq = s.rxq ∨ ∃ b rest, s.rxq = b :: rest ∧ b ≠ 0xFF ∧ v.rxq = rest) := by
  obtain ⟨_, he⟩ | ⟨_, _, he⟩ | ⟨b, rest, hq, hb, he⟩ := resyncLine_cases s <;> rw [he] at h <;> injection h with h <;>
    subst h
  · exact ⟨⟨rfl, by simp, rfl⟩, .inl rfl⟩
  · exact ⟨⟨rfl, by simp, rfl⟩, .inl rfl⟩
  · exact ⟨⟨rfl, .inr (.inl hp), rfl⟩, .inr ⟨b, rest, hq, hb, rfl⟩⟩

theorem readLine_parsing (s : State) :
    Parsing s (readLine s) ∧
      (s.rxq = [] ∧ (readLine s).rxq = [] ∨ ∃ c ≤ 9, (readLine s).rxq = (s.rxq ++ s.act.arrive).drop c) := by
  by_cases hq : s.rxq = []
  · rw [readLine_of_empty hq]
    exact ⟨⟨rfl, by simp, rfl⟩, .inl ⟨hq, hq⟩⟩
  · obtain ⟨_, hle, _⟩ := readCount_bounds 9 s
    by_cases hc : readCount 9 s = 9
    · rw [readLine_of_frame hq hc]
      exact ⟨⟨rfl, by simp, rfl⟩, .inr ⟨_, hle, rfl⟩⟩
    · rw [readLine_of_short hq hc]
      exact ⟨⟨rfl, by simp, rfl⟩, .inr ⟨_, hle, rfl⟩⟩

theorem checkLine_parsing (r : Frame) (s : State) : Parsing s (checkLine r s) ∧ (checkLine r s).rxq = s.rxq := by
  obtain ⟨_, he⟩ | ⟨_, he⟩ := checkLine_cases r s <;> rw [he] <;> exact ⟨⟨rfl, by simp, rfl⟩, rfl⟩

/-- Settles O33: `Parsing` for the phases before FLUSH, the two ends of the flush, and EXTRACT. -/
theorem everyParsePathFlushesOnce : Obligations.EveryParsePathFlushesOnce := by
  refine ⟨fun s t hp hstep => ?before, fun s t hp hstep => ?flush, fun s t hp hstep => ?extract⟩ <;>
    obtain ⟨v, m, rfl⟩ := step_move hstep
  case before =>
    rw [environment_results, environment_ph, environment_rxq]
    obtain hp | hp | hp | hp := hp <;> simp only [hp, reduceCtorEq, forall_const, false_implies, and_true, true_and]
    · obtain rfl := m.eq_waitLine hp
      obtain ⟨hparse, hrxq⟩ := waitLine_parsing hp
      rw [hparse.act]
      exact ⟨hparse.results, hparse.ph, hrxq.imp (congrArg (· ++ _)) (congrArg (· ++ _))⟩
    · obtain ⟨hparse, hrxq⟩ := resyncLine_parsing hp (m.resyncLine_eq hp)
      rw [hparse.act]
      refine ⟨hparse.results, hparse.ph, hrxq.imp (congrArg (· ++ _)) ?_⟩
      rintro ⟨b, rest, hq, hb, hv⟩
      exact ⟨b, rest, hq, hb, congrArg (· ++ _) hv⟩
    · obtain rfl := m.eq_readLine hp
      obtain ⟨hparse, hrxq⟩ := readLine_parsing s
      rw [hparse.act]
      refine ⟨hparse.results, hparse.ph, hrxq.imp ?_ ?_⟩
      · rintro ⟨hq, hv⟩
        exact ⟨hq, by rw [hv, List.nil_append]⟩
      · rintro ⟨c, hc, hv⟩
        exact ⟨c, hc, congrArg (· ++ _) hv⟩
    · obtain rfl := m.eq_checkLine hp
      obtain ⟨hparse, hrxq⟩ := checkLine_parsing s.resp s
      rw [hparse.act, hrxq]
      exact ⟨hparse.results, hparse.ph, rfl⟩
  case flush =>
    obtain rfl := m.eq_flushLine hp
    by_cases hok : s.pend = .ok
    · rw [flushLine_ok s hok]
      exact ⟨rfl, .inr ⟨hok, rfl, rfl⟩⟩
    · rw [flushLine_failed s hok]
      exact ⟨rfl, .inl ⟨hok, rfl, rfl⟩⟩
  case extract =>
    obtain rfl := m.eq_extractLine hp
    exact ⟨rfl, rfl⟩

end Sys2Proof.Machine
end

section
/-! PROOFS. The invariant: every step keeps it, and from a state that meets it a step stops only where the host breaks a
rule (spec/10_state.md, spec/30_encoding.md R96, spec/45_host_ops.md R212). -/

namespace Sys2Proof.Machine

/-! ### The clauses of the invariant, in words -/

theorem cmdBuilt_iff (s : State) : cmdBuilt s = true ↔ (s.ph = .send → s.op.bind frameOf = some s.cmd) := by
  simp [cmdBuilt, Classical.or_iff_not_imp_left]

theorem respValid_iff (s : State) :
    respValid s = true ↔ (s.ph = .flush ∧ s.pend = .ok ∨ s.ph = .extract → s.resp.accepted = true) := by
  simp only [respValid, Bool.or_eq_true, Bool.not_eq_true', ← Bool.not_eq_true, Bool.and_eq_true, decide_eq_true_eq]
  exact imp_iff_not_or.symm

theorem pendLegal_iff (s : State) :
    pendLegal s = true ↔ (s.ph = .flush → s.pend ∈ [.ok, .noResponse, .incomplete, .checksumMismatch]) := by
  simp only [pendLegal, Bool.or_eq_true, Bool.not_eq_true', ← Bool.not_eq_true, decide_eq_true_eq]
  exact imp_iff_not_or.symm

theorem resultsLegal_iff (s : State) : resultsLegal s = true ↔ ∀ r ∈ s.results, r.st = .ok ∨ r.val = 0 := by
  simp [resultsLegal]

/-- A sending operation is past its gates where the serial channel is open. -/
theorem channelOpen_of_sender {s : State} {i : Instr} {f : Frame} (ho : s.op = some i) (hf : frameOf i = some f)
    (hser : s.cfg.ser = true) : channelOpen s = true := by
  rw [channelOpen, ho]
  cases i with
  | rdpwm => cases hf
  | _ => simp [hser]

theorem Invariant.ser {s : State} {i : Instr} {f : Frame} (h : Invariant s) (ho : s.op = some i)
    (hf : frameOf i = some f) (hp : s.ph ≠ .gate) : s.cfg.ser = true := by
  have hopen := h.channel
  rw [channelOpen, ho] at hopen
  cases i with
  | rdpwm => cases hf
  | _ => simpa [hp, hf] using hopen

theorem Invariant.pwm {s : State} {a : BitVec 32} (h : Invariant s) (ho : s.op = some (.rdpwm a)) (hp : s.ph ≠ .gate) :
    s.cfg.pwm = true := by
  have hopen := h.channel
  rw [channelOpen, ho] at hopen
  simpa [hp] using hopen

theorem spanChecked_of_accepted {s : State} {i : Instr} (ho : s.op = some i)
    (hv : ∀ v, i = .setspan v → spanAccepted v = true) : spanChecked s = true := by
  rw [spanChecked, ho]
  cases i with
  | setspan v => simp [hv v rfl]
  | _ => rfl

theorem Invariant.spanAccepted {s : State} {i : Instr} (h : Invariant s) (ho : s.op = some i) (hp : s.ph ≠ .gate) :
    ∀ v, i = .setspan v → Sys2Proof.spanAccepted v = true := by
  rintro v rfl
  have hchecked := h.span
  rw [spanChecked, ho] at hchecked
  simpa [hp] using hchecked

/-! ### The operations and their phases -/

/-- A sending operation passes through BUILD, SEND and SETTLE. -/
theorem allows_of_sender {i : Instr} {f : Frame} {p : Phase} (hf : frameOf i = some f)
    (hp : p = .build ∨ p = .send ∨ p = .settle) : allows i p = true := by
  cases i with
  | rduart | setabc | setbg | setspan => obtain rfl | rfl | rfl := hp <;> rfl
  | _ => cases hf

theorem rduart_of_allows_check {i : Instr} (h : allows i .check = true) : ∃ a, i = .rduart a := by
  cases i with
  | rduart a => exact ⟨a, rfl⟩
  | _ => exact absurd h (by simp [allows])

/-- The frame an operation sends is a command frame. -/
theorem decodeCF_of_frameOf {i : Instr} {f : Frame} (hf : frameOf i = some f)
    (hv : ∀ v, i = .setspan v → spanAccepted v = true) : ∃ j, decodeCF f = .ok j := by
  cases i with
  | rduart =>
    obtain rfl := Option.some.inj hf
    exact ⟨.cmdRead, decode_encode (i := .cmdRead) rfl⟩
  | setabc e =>
    obtain rfl := Option.some.inj hf
    cases e with
    | true => exact ⟨.cmdAbcOn, decode_encode (i := .cmdAbcOn) rfl⟩
    | false => exact ⟨.cmdAbcOff, decode_encode (i := .cmdAbcOff) rfl⟩
  | setbg =>
    obtain rfl := Option.some.inj hf
    exact ⟨.cmdBg, decode_encode (i := .cmdBg) rfl⟩
  | setspan v =>
    obtain rfl := Option.some.inj hf
    obtain ⟨h1, h2⟩ := (spanAccepted_iff v).1 (hv v rfl)
    exact ⟨.cmdSpan v.toNat, decodeCF_frameSpan v.toNat (by omega) (by omega)⟩
  | _ => cases hf

/-- In phase SEND CMD holds the frame of the operation in progress. -/
theorem Invariant.frameOf_eq_cmd {s : State} {i : Instr} (h : Invariant s) (ho : s.op = some i) (hp : s.ph = .send) :
    frameOf i = some s.cmd := by
  have hcmd := (cmdBuilt_iff s).1 h.cmd hp
  rwa [ho] at hcmd

/-! ### Stops -/

/-- An operation in one of its phases runs the line of that phase (R24, R214 to R223). -/
theorem exec_progress {i : Instr} {p : Phase} {s : State} (h : running i p s) (ha : allows i p = true) :
    ∃ t, exec i s = .next t := by
  cases i with
  | rduart a =>
    cases p with
    | idle | measure | scale => cases ha
    | resync =>
      rw [exec_rduart_resync h]
      obtain ⟨_, he⟩ | ⟨_, _, he⟩ | ⟨_, _, _, _, he⟩ := resyncLine_cases s <;> exact ⟨_, he⟩
    | _ => exact ⟨_, hostOp_of_running _ h (by decide)⟩
  | setabc | setbg | setspan =>
    cases p with
    | gate | build | send | settle => exact ⟨_, hostOp_of_running _ h (by decide)⟩
    | _ => cases ha
  | rdpwm =>
    cases p with
    | gate | measure | scale => exact ⟨_, hostOp_of_running _ h (by decide)⟩
    | _ => cases ha
  | gettemp | ispre | isrdy =>
    cases p with
    | gate => exact ⟨_, hostOp_of_running _ h (by decide)⟩
    | _ => cases ha
  | _ => cases ha

theorem step_progress {s u v : State} {i : Instr} (hf : fetch s = .next (some i, u)) (he : exec i u = .next v) :
    ∃ t, step s = .next t :=
  ⟨_, step_of_exec s u v i hf he⟩

/-- While the block is busy and the host keeps to R271, the step runs. -/
theorem Invariant.step_of_busy {s : State} (h : Invariant s) (hp : s.ph ≠ .idle) (hd : hostDutiful s = true) :
    ∃ t, step s = .next t := by
  obtain ⟨i, ho, ha⟩ := h.exists_op hp
  by_cases hsend : s.ph = .send
  · obtain ⟨j, hj⟩ := decodeCF_of_frameOf (h.frameOf_eq_cmd ho hsend) (h.spanAccepted ho (by simp [hsend]))
    exact step_progress (fetch_send hd hsend hj) (exec_commandFrame (encode_of_decodeCF hj).2 hsend)
  · by_cases hcheck : s.ph = .check
    · exact step_progress (fetch_check hd hcheck) (exec_resp_check s.resp hcheck)
    · obtain ⟨v, he⟩ := exec_progress ⟨rfl, ho⟩ ha
      exact step_progress (fetch_operation hd hp hsend hcheck ho) he

/-- In IDLE the command port takes the host's word or refuses its selector (R92, R96). -/
theorem step_of_hostWord {s : State} {w : HCWord} {rest : List HostLine} (hp : s.ph = .idle)
    (hh : s.host = .issue w :: rest ∨ s.host = .force w :: rest) :
    (∃ t, step s = .next t) ∨
    ((w.extractLsb' 32 4 = 0 ∨ 9 ≤ (w.extractLsb' 32 4).toNat) ∧
      step s = .refused (.reservedOpSel (w.extractLsb' 32 4))) := by
  have hfetch := fetch_hostWord hp hh
  obtain ⟨_, ha⟩ | ⟨hsel, hrefused⟩ := decodeHC_cases w
  · exact .inl (step_progress hfetch (exec_of_idle (s := { s with host := rest }) ha hp))
  · refine .inr ⟨hsel, ?_⟩
    rw [step_of_fetch s _ _ hfetch, hrefused]
    rfl

/-- The three outcomes of a step from a state that meets the invariant. -/
theorem Invariant.step_outcome {s : State} (h : Invariant s) :
    (∃ t, step s = .next t) ∨
    (∃ w rest, s.ph = .idle ∧ (s.host = .issue w :: rest ∨ s.host = .force w :: rest) ∧
      (w.extractLsb' 32 4 = 0 ∨ 9 ≤ (w.extractLsb' 32 4).toNat) ∧
      step s = .refused (.reservedOpSel (w.extractLsb' 32 4))) ∨
    (s.ph ≠ .idle ∧ (∃ w rest, s.host = .force w :: rest) ∧ step s = .refused .busy) := by
  by_cases hp : s.ph = .idle
  · cases hh : s.host with
    | nil => exact .inl ⟨_, step_of_fetch_none s s (fetch_hostSilent hp hh)⟩
    | cons l rest =>
      cases l with
      | wait d => exact .inl ⟨_, step_of_fetch_none s _ (fetch_hostWait hp hh)⟩
      | issue w =>
        exact (step_of_hostWord hp (.inl hh)).imp_right fun ⟨hsel, hr⟩ => .inl ⟨w, rest, hp, .inl rfl, hsel, hr⟩
      | force w =>
        exact (step_of_hostWord hp (.inr hh)).imp_right fun ⟨hsel, hr⟩ => .inl ⟨w, rest, hp, .inr rfl, hsel, hr⟩
  · by_cases hd : hostDutiful s = true
    · exact .inl (h.step_of_busy hp hd)
    · obtain ⟨w, rest, hh⟩ : ∃ w rest, s.host = .force w :: rest := by
        simpa [hostDutiful_iff] using hd
      exact .inr (.inr ⟨hp, ⟨w, rest, hh⟩, step_of_fetch_refused (fetch_forced hp hh)⟩)

/-- Settles O24: of the three outcomes of `Invariant.step_outcome` none is a fault and two are the host's misuse. -/
theorem stepStopsOnlyOnHostMisuse : Obligations.StepStopsOnlyOnHostMisuse := by
  intro s hinv
  obtain ⟨t, ht⟩ | ⟨w, rest, hp, hh, hsel, hr⟩ | ⟨hp, ⟨w, rest, hh⟩, hr⟩ := hinv.step_outcome
  · exact ⟨by simp [ht], by simp [ht]⟩
  · refine ⟨by simp [hr], fun r h => .inl ⟨_, w, rest, ?_, hp, hh, rfl, hsel⟩⟩
    exact (Host.Outcome.refused.inj (hr.symm.trans h)).symm
  · refine ⟨by simp [hr], fun r h => .inr ⟨?_, hp, w, rest, hh⟩⟩
    exact (Host.Outcome.refused.inj (hr.symm.trans h)).symm

/-! ### The clauses that do not mention PH -/

/-- The part of the invariant about the configuration, the clock and the logs. -/
structure Standing (s : State) : Prop where
  params : paramsLegal s.params = true
  straps : strapsLegal s.params s.variant = true
  clock : s.lastreq ≤ s.now
  txs : frameStream s.txs = true
  lasttemp : lasttempLegal s = true
  results : resultsLegal s = true

theorem frameStream_append {l : List Byte} (h : frameStream l = true) {f : Frame} {i : Instr} (hf : decodeCF f = .ok i) :
    frameStream (l ++ f.toList) = true := by
  induction l using frameStream.induct with
  | case1 =>
    obtain ⟨b0, b1, b2, b3, b4, b5, b6, b7, b8⟩ := f
    simp [frameStream, Frame.toList, hf]
  | case2 b0 b1 b2 b3 b4 b5 b6 b7 b8 rest ih =>
    simp only [frameStream, Bool.and_eq_true, List.cons_append] at h ⊢
    exact ⟨h.1, ih h.2⟩
  | case3 l hnil hcons => simp [frameStream] at h

theorem Effect.clock {s v : State} (e : Effect s v) (hlater : Later s v) (h : s.lastreq ≤ s.now) : v.lastreq ≤ v.now := by
  cases e with
  | sent _ _ _ hk => exact hk.lastreq.le
  | quiet hk | accepted _ hk | invalidated _ _ hk | delivered _ _ _ _ _ hk =>
    exact hk.lastreq.le.trans (h.trans hlater.now)

theorem Effect.frameStream {s v : State} (e : Effect s v) (h : Machine.frameStream s.txs = true) :
    Machine.frameStream v.txs = true := by
  cases e with
  | sent _ _ hc hk => exact hk.txs ▸ frameStream_append h hc
  | quiet hk | accepted _ hk | invalidated _ _ hk | delivered _ _ _ _ _ hk => exact hk.txs ▸ h

theorem Effect.lasttempLegal {s v : State} (e : Effect s v) (hlater : Later s v) (h : Machine.lasttempLegal s = true) :
    Machine.lasttempLegal v = true := by
  rw [lasttempLegal_iff] at h ⊢
  rw [hlater.params]
  cases e with
  | quiet hk | accepted _ hk | sent _ _ _ hk => exact hk.lasttemp ▸ h
  | invalidated _ _ hk => exact .inr (.inl hk.lasttemp)
  | delivered _ _ _ _ htemp =>
    obtain htemp | ⟨_, _, htemp⟩ := htemp
    · exact htemp ▸ h
    · exact .inl (htemp ▸ temperature_bounds s.resp)

theorem Effect.resultsLegal {s v : State} (e : Effect s v) (h : Machine.resultsLegal s = true) :
    Machine.resultsLegal v = true := by
  rw [resultsLegal_iff] at h ⊢
  cases e with
  | quiet hk | accepted _ hk | sent _ _ _ hk | invalidated _ _ hk => exact hk.results ▸ h
  | delivered r hr _ _ _ hk =>
    rw [hk.results]
    intro r' hmem
    obtain hmem | hmem := List.mem_append.1 hmem
    · exact h r' hmem
    · obtain rfl := List.mem_singleton.1 hmem
      exact or_iff_not_imp_left.2 hr.val_of_failure

theorem Move.standing {s v : State} (m : Move s v) (h : Invariant s) : Standing v where
  params := m.later.params ▸ h.params
  straps := m.later.params ▸ m.later.variant ▸ h.straps
  clock := m.effect.clock m.later h.clock
  txs := m.effect.frameStream h.txs
  lasttemp := m.effect.lasttempLegal m.later h.lasttemp
  results := m.effect.resultsLegal h.results

/-! ### The invariant by the kind of phase -/

section
variable {s : State} (st : Standing s)
include st

theorem Standing.invariant_of_idle (hp : s.ph = .idle) (ho : s.op = none) : Invariant s :=
  ⟨st.params, st.straps, st.clock, by simp [sequenced, ho, hp], by simp [channelOpen, ho], by simp [spanChecked, ho],
    by simp [cmdBuilt_iff, hp], by simp [spaced_iff, hp], by simp [hp], by simp [hp], by simp [respValid_iff, hp],
    by simp [pendLegal_iff, hp], st.txs, st.lasttemp, st.results⟩

theorem Standing.invariant_of_gate {i : Instr} (hp : s.ph = .gate) (ho : s.op = some i) (ha : allows i .gate = true) :
    Invariant s :=
  ⟨st.params, st.straps, st.clock, by simp [sequenced, ho, hp, ha], by cases i <;> simp [channelOpen, ho, hp],
    by cases i <;> simp [spanChecked, ho, hp], by simp [cmdBuilt_iff, hp], by simp [spaced_iff, hp], by simp [hp],
    by simp [hp], by simp [respValid_iff, hp], by simp [pendLegal_iff, hp], st.txs, st.lasttemp, st.results⟩

/-- BUILD, SEND and SETTLE of a sending operation. -/
theorem Standing.invariant_of_sending {i : Instr} {f : Frame} (ho : s.op = some i) (hf : frameOf i = some f)
    (hser : s.cfg.ser = true) (hv : ∀ v, i = .setspan v → spanAccepted v = true)
    (hp : s.ph = .build ∨ s.ph = .send ∨ s.ph = .settle) (hcmd : s.ph = .send → s.cmd = f) (hready : spaced s = true) :
    Invariant s := by
  have hseq : sequenced s = true := by
    rw [sequenced, ho]
    exact allows_of_sender hf hp
  have hbuilt : cmdBuilt s = true := (cmdBuilt_iff s).2 fun h => by rw [ho, hcmd h]; exact hf
  have hphase (p : Phase) (h1 : p ≠ .build) (h2 : p ≠ .send) (h3 : p ≠ .settle) : s.ph ≠ p := by
    rintro rfl
    simp_all
  exact ⟨st.params, st.straps, st.clock, hseq, channelOpen_of_sender ho hf hser, spanChecked_of_accepted ho hv, hbuilt,
    hready, fun h => absurd h (hphase _ (by decide) (by decide) (by decide)),
    fun h => absurd h (hphase _ (by decide) (by decide) (by decide)),
    by simp [respValid_iff, hphase], by simp [pendLegal_iff, hphase], st.txs, st.lasttemp, st.results⟩

/-- The phases of RDUART after SETTLE. -/
theorem Standing.invariant_of_reading {a : BitVec 32} (ho : s.op = some (.rduart a)) (hser : s.cfg.ser = true)
    (hp : s.ph = .wait ∧ s.k ≤ 10 ∨ s.ph = .resync ∨ s.ph = .read ∨ s.ph = .check ∨
      (s.ph = .flush ∧ s.pend ∈ [.ok, .noResponse, .incomplete, .checksumMismatch]) ∨ s.ph = .extract)
    (hresp : respValid s = true) : Invariant s := by
  have hseq : sequenced s = true := by
    obtain ⟨hp, _⟩ | hp | hp | hp | ⟨hp, _⟩ | hp := hp <;> simp [sequenced, ho, hp, allows]
  have hpend : pendLegal s = true := by
    rw [pendLegal_iff]
    intro h
    simpa [h] using hp
  have hpoll : s.ph = .wait → s.k ≤ 10 := by
    intro h
    simpa [h] using hp
  have hphase (p : Phase) (h : p = .build ∨ p = .send ∨ p = .scale) : s.ph ≠ p := by
    rintro rfl
    obtain h | h | h := h <;> simp [h] at hp
  exact ⟨st.params, st.straps, st.clock, hseq, channelOpen_of_sender ho rfl hser, spanChecked_of_accepted ho nofun,
    by simp [cmdBuilt_iff, hphase], by simp [spaced_iff, hphase], hpoll,
    fun h => absurd h (hphase .scale (.inr (.inr rfl))), hresp, hpend, st.txs, st.lasttemp, st.results⟩

/-- MEASURE and SCALE of RDPWM. -/
theorem Standing.invariant_of_measuring {a : BitVec 32} (ho : s.op = some (.rdpwm a)) (hpwm : s.cfg.pwm = true)
    (hp : s.ph = .measure ∨ s.ph = .scale ∧ 1 ≤ s.th ∧ s.th ≤ s.params.pwmTimeout) : Invariant s := by
  have hseq : sequenced s = true := by
    obtain hp | ⟨hp, _⟩ := hp <;> simp [sequenced, ho, hp, allows]
  have hphase (p : Phase) (h : p ≠ .measure ∧ p ≠ .scale) : s.ph ≠ p := by
    rintro rfl
    simp [h] at hp
  have hpulse : s.ph = .scale → 1 ≤ s.th ∧ s.th ≤ s.params.pwmTimeout := by
    intro h
    simpa [h] using hp
  exact ⟨st.params, st.straps, st.clock, hseq, by simp [channelOpen, ho, hpwm], spanChecked_of_accepted ho nofun,
    by simp [cmdBuilt_iff, hphase], by simp [spaced_iff, hphase], fun h => absurd h (hphase .wait (by decide)), hpulse,
    by simp [respValid_iff, hphase], by simp [pendLegal_iff, hphase], st.txs, st.lasttemp, st.results⟩

end

/-! ### Time passes -/

theorem spaced_of_later {s : State} (h : spaced s = true) {n : Nat} (hn : s.now ≤ n) (q : List Byte) (l : List HostLine)
    (e : List EnvAct) (d : Nat) : spaced { s with now := n, rxq := q, host := l, env := e, draws := d } = true := by
  rw [spaced_iff] at h ⊢
  intro hp tm ht
  obtain ⟨hwarm, hinterval⟩ := h hp tm ht
  exact ⟨hwarm.trans hn, hinterval.trans hn⟩

/-- What the environment and the host do on their own touches no clause but the monotone ones. -/
theorem Invariant.of_later {s : State} (h : Invariant s) {n : Nat} (hn : s.now ≤ n) (q : List Byte) (l : List HostLine)
    (e : List EnvAct) (d : Nat) : Invariant { s with now := n, rxq := q, host := l, env := e, draws := d } :=
  ⟨h.params, h.straps, h.clock.trans hn, h.seq, h.channel, h.span, h.cmd, spaced_of_later h.ready hn q l e d, h.poll,
    h.pulse, h.resp, h.pend, h.txs, h.lasttemp, h.results⟩

theorem environment_invariant {s : State} (h : Invariant s) : Invariant (environment s) :=
  h.of_later (Nat.le_add_right s.now s.act.dt) _ _ _ _

/-! ### Moves -/

section
variable {s : State}

theorem respValid_of_phase (h : s.ph ≠ .flush) (h' : s.ph ≠ .extract) : respValid s = true := by
  simp [respValid_iff, h, h']

theorem respValid_of_pend (h : s.pend ≠ .ok) (h' : s.ph ≠ .extract) : respValid s = true := by
  simp [respValid_iff, h, h']

/-- The readiness gate lets pass only what `spaced` asks for (R172, R175). -/
theorem spaced_of_isReady (h : isReady s = true) : spaced s = true := by
  rw [spaced_iff]
  intro _ tm ht
  obtain ⟨hwarm, hinterval⟩ := (isReady_iff_of_timing ht).1 h
  omega

variable {a : BitVec 32} (h : Invariant s) (ho : s.op = some (.rduart a))
include h ho

theorem waitLine_invariant (hp : s.ph = .wait) (st : Standing (waitLine s)) : Invariant (waitLine s) := by
  have hser : s.cfg.ser = true := h.ser ho rfl (by simp [hp])
  have hk : s.k ≤ 10 := h.poll hp
  obtain ⟨_, _, he⟩ | ⟨_, hne, he⟩ | ⟨_, he⟩ := waitLine_cases s <;> rw [he] at st ⊢
  · exact st.invariant_of_reading ho hser (by simp) (respValid_of_pend (by simp) (by simp))
  · have hph : ({ sleep s.params.pollStep s with k := s.k + 1 } : State).ph = .wait := hp
    exact st.invariant_of_reading ho hser (.inl ⟨hp, by change s.k + 1 ≤ 10; omega⟩)
      (respValid_of_phase (by simp [hp]) (by simp [hp]))
  · exact st.invariant_of_reading ho hser (by simp) (respValid_of_phase (by simp) (by simp))

theorem readLine_invariant (hp : s.ph = .read) (st : Standing (readLine s)) : Invariant (readLine s) := by
  have hser : s.cfg.ser = true := h.ser ho rfl (by simp [hp])
  obtain ⟨_, he⟩ | ⟨_, u, rfl, ⟨_, he⟩ | ⟨_, he⟩⟩ := readLine_cases s <;> rw [he] at st ⊢
  · exact st.invariant_of_reading ho hser (by simp) (respValid_of_pend (by simp) (by simp))
  · exact st.invariant_of_reading ho hser (by simp) (respValid_of_pend (by simp) (by simp))
  · exact st.invariant_of_reading ho hser (by simp) (respValid_of_phase (by simp) (by simp))

theorem checkLine_invariant (hp : s.ph = .check) (st : Standing (checkLine s.resp s)) : Invariant (checkLine s.resp s) := by
  have hser : s.cfg.ser = true := h.ser ho rfl (by simp [hp])
  obtain ⟨hok, he⟩ | ⟨_, he⟩ := checkLine_cases s.resp s <;> rw [he] at st ⊢
  · exact st.invariant_of_reading ho hser (by simp) ((respValid_iff _).2 fun _ => hok)
  · exact st.invariant_of_reading ho hser (by simp) (respValid_of_pend (by simp) (by simp))

theorem flushLine_invariant (hp : s.ph = .flush) (st : Standing (flushLine s)) : Invariant (flushLine s) := by
  by_cases hok : s.pend = .ok
  · have hresp : s.resp.accepted = true := (respValid_iff s).1 h.resp (.inl ⟨hp, hok⟩)
    rw [flushLine_ok s hok] at st ⊢
    exact st.invariant_of_reading ho (h.ser ho rfl (by simp [hp])) (by simp) ((respValid_iff _).2 fun _ => hresp)
  · rw [flushLine_failed s hok] at st ⊢
    exact st.invariant_of_idle rfl rfl

end

theorem measureLine_invariant {s : State} {a : BitVec 32} (h : Invariant s) (ho : s.op = some (.rdpwm a))
    (hp : s.ph = .measure) (st : Standing (measureLine s)) : Invariant (measureLine s) := by
  have hpwm : s.cfg.pwm = true := h.pwm ho (by simp [hp])
  obtain ⟨d, hd, ⟨_, he⟩ | ⟨hne, he⟩⟩ := measureLine_cases s <;> rw [he] at st ⊢
  · exact st.invariant_of_measuring ho hpwm (.inl hp)
  · exact st.invariant_of_measuring ho hpwm
      (.inr ⟨rfl, Nat.pos_of_ne_zero hne, hd.trans_le (pulseResult_le _ _ s)⟩)

/-- A line of the operation in progress keeps the invariant: each leads to a kind of phase whose clauses it meets. -/
theorem Line.invariant {i : Instr} {s v : State} (l : Line i s v) (h : Invariant s) (ho : s.op = some i)
    (hidle : s.ph ≠ .idle) (hsend : s.ph ≠ .send) (hcheck : s.ph ≠ .check) (st : Standing v) : Invariant v := by
  cases l with
  | accept hp => exact absurd hp hidle
  | send _ hp => exact absurd hp hsend
  | check _ hp => exact absurd hp hcheck
  | fail | answer | buildFail | settleSet | extract | scale => exact st.invariant_of_idle rfl rfl
  | toBuild f _ _ hf hser hr hv =>
    exact st.invariant_of_sending ho hf hser hv (.inl rfl) nofun (spaced_of_isReady (s := goto .build s) hr)
  | build f hp _ hf hv =>
    refine st.invariant_of_sending ho hf (h.ser ho hf (by simp [hp])) hv (.inr (.inl rfl)) (fun _ => rfl) ?_
    exact (spaced_iff _).2 fun _ tm ht => h.ready_of_timing (.inl hp) ht
  | toMeasure a hi _ _ hpwm => exact st.invariant_of_measuring (hi ▸ ho) hpwm (.inl rfl)
  | measure a hi hp => exact measureLine_invariant h (hi ▸ ho) hp st
  | settleRead a hi hp =>
    subst hi
    exact st.invariant_of_reading ho (h.ser ho rfl (by simp [hp])) (by simp) (respValid_of_phase (by simp) (by simp))
  | wait a hi hp => exact waitLine_invariant h (hi ▸ ho) hp st
  | resyncEnd a hi hp =>
    subst hi
    exact st.invariant_of_reading ho (h.ser ho rfl (by simp [hp])) (by simp) (respValid_of_phase (by simp) (by simp))
  | resyncPop a _ rest hi hp => exact h.of_later le_rfl rest _ _ _
  | read a hi hp => exact readLine_invariant h (hi ▸ ho) hp st
  | flush a hi hp => exact flushLine_invariant h (hi ▸ ho) hp st

theorem Move.invariant {s v : State} (m : Move s v) (h : Invariant s) : Invariant v := by
  have st : Standing v := m.standing h
  cases m with
  | silent => exact h
  | hostWait d rest => exact h.of_later (Nat.le_add_right s.now (d + s.act.delay)) _ _ _ _
  | accept i rest _ hi => exact st.invariant_of_gate rfl rfl hi
  | send _ hp hc =>
    obtain ⟨i, ho, _⟩ := h.exists_op (by simp [hp])
    have hf := h.frameOf_eq_cmd ho hp
    exact st.invariant_of_sending ho hf (h.ser ho hf (by simp [hp])) (h.spanAccepted ho (by simp [hp]))
      (.inr (.inr rfl)) nofun (by simp [spaced_iff])
  | check hp =>
    obtain ⟨i, ho, ha⟩ := h.exists_op (by simp [hp])
    obtain ⟨a, rfl⟩ := rduart_of_allows_check (hp ▸ ha)
    exact checkLine_invariant h ho hp st
  | line i _ hidle hsend hcheck ho he => exact (exec_line i s v he).invariant h ho hidle hsend hcheck st

/-- Settles O23: the move keeps the invariant, and so does the environment after it. -/
theorem stepKeepsInv : Obligations.StepKeepsInv := by
  intro s t hinv hstep
  obtain ⟨v, m, rfl⟩ := step_move hstep
  exact environment_invariant (m.invariant hinv)

end Sys2Proof.Machine
end

section
/-! PROOFS. Whole operations as runs of steps (spec/45_host_ops.md, spec/42_frame_parse.md, spec/44_pwm.md). -/

namespace Sys2Proof.Machine

/-! ### Steps of an operation in progress -/

/-- In the phases whose line is the operation's own, the step is that line, then the environment acts. -/
theorem step_running {i : Instr} {p : Phase} {s v : State} (h : running i p s) (hd : hostDutiful s = true)
    (hp : p ≠ .idle ∧ p ≠ .send ∧ p ≠ .check) (he : exec i s = .next v) : step s = .next (environment v) := by
  obtain ⟨rfl, ho⟩ := h
  obtain ⟨hidle, hsend, hcheck⟩ := hp
  exact step_of_exec s s v i (fetch_operation hd hidle hsend hcheck ho) he

theorem step_check {s : State} (hp : s.ph = .check) (hd : hostDutiful s = true) :
    step s = .next (environment (checkLine s.resp s)) :=
  step_of_exec s s _ _ (fetch_check hd hp) (exec_resp_check s.resp hp)

theorem step_send {s : State} {i : Instr} {f : Frame} (h : running i .send s) (hd : hostDutiful s = true)
    (hf : frameOf i = some f) (hcmd : s.cmd = f) (hv : ∀ v, i = .setspan v → spanAccepted v = true) :
    step s = .next (environment (transmit f s)) := by
  subst hcmd
  obtain ⟨j, hj⟩ := decodeCF_of_frameOf hf hv
  exact step_of_exec s s _ _ (fetch_send hd h.1 hj) (exec_commandFrame (encode_of_decodeCF hj).2 h.1)

theorem run_of_last_step {s t : State} (h : step s = .next t) : Host.Core.run core 1 s = .next t :=
  (run_of_step 0 s t h).trans rfl

/-- From `s` to `u` the operation in progress has gone on: it has neither transmitted nor delivered anything, and the host
has issued nothing. -/
structure Underway (s u : State) : Prop where
  kept : Kept s u
  host : u.host = s.host

theorem Underway.trans {s t u : State} (h : Underway s t) (h' : Underway t u) : Underway s u where
  kept := {
    lastreq := h'.kept.lastreq.trans h.kept.lastreq
    lasttemp := h'.kept.lasttemp.trans h.kept.lasttemp
    txs := h'.kept.txs.trans h.kept.txs
    results := h'.kept.results.trans h.kept.results
    op := h'.kept.op.trans h.kept.op }
  host := h'.host.trans h.host

theorem Underway.dutiful {s u : State} (h : Underway s u) (hd : hostDutiful s = true) : hostDutiful u = true := by
  rw [hostDutiful_iff] at hd ⊢
  exact h.host ▸ hd

/-- From `s` to `u` the block has left alone what the sensor sent. -/
structure Unread (s u : State) : Prop where
  resp : u.resp = s.resp
  rxq : s.rxq <+: u.rxq

theorem Unread.trans {s t u : State} (h : Unread s t) (h' : Unread t u) : Unread s u :=
  ⟨h'.resp.trans h.resp, h.rxq.trans h'.rxq⟩

/-! ### A set operation -/

/-- A block that is Ready stays so while nothing is sent: NOW only grows (R172). -/
theorem isReady_of_later {s t : State} (h : Later s t) (hreq : t.lastreq = s.lastreq) (hr : isReady s = true) :
    isReady t = true := by
  have htm : timingOf t.params t.variant = timingOf s.params s.variant := by rw [h.params, h.variant]
  cases ht : timingOf s.params s.variant with
  | none => exact isReady_of_no_timing (htm.trans ht)
  | some tm =>
    have hnow := h.now
    rw [isReady_iff_of_timing ht] at hr
    rw [isReady_iff_of_timing (htm.trans ht), hreq]
    omega

/-- Every sending operation goes on to BUILD where its gates pass (R211). -/
theorem exec_sender_gate {i : Instr} {f : Frame} {s : State} (h : running i .gate s) (hf : frameOf i = some f)
    (hv : ∀ v, i = .setspan v → spanAccepted v = true) (hc : s.cfg.ser = true) (hr : isReady s = true) :
    exec i s = .next (goto .build s) := by
  have hserial : gateSerialReady s = none := (gateSerialReady_none s).2 ⟨hc, hr⟩
  cases i with
  | rduart a => rw [exec_serial_gate (a := a) (e := true) (r := 0) (.inl rfl) h, hserial, afterGate]
  | setabc e r => rw [exec_serial_gate (a := 0) (e := e) (r := r) (.inr (.inl rfl)) h, hserial, afterGate]
  | setbg a => rw [exec_serial_gate (a := a) (e := true) (r := 0) (.inr (.inr rfl)) h, hserial, afterGate]
  | setspan v => exact exec_setspan_gate_of_passed h ((gateSetspan_none v s).2 ⟨hv v rfl, hc, hr⟩)
  | _ => cases hf

/-- The first four steps of a sending operation: from the command port to the transmission. -/
theorem run_to_transmit {i : Instr} {f : Frame} {s : State} {w : HCWord} {rest : List HostLine}
    (hf : frameOf i = some f) (hv : ∀ v, i = .setspan v → spanAccepted v = true) (hp : s.ph = .idle)
    (hh : s.host = .issue w :: rest) (hw : decodeHC w = i) (hd : hostDutiful { s with host := rest } = true)
    (hc : s.cfg.ser = true) (hr : isReady s = true) :
    ∃ u : State, (∀ n, Host.Core.run core (n + 4) s = Host.Core.run core n u) ∧ running i .settle u ∧
      s.now ≤ u.lastreq ∧ u.lastreq ≤ u.now ∧ Unread s u ∧
      Underway { s with op := some i, host := rest, lastreq := u.lastreq, txs := s.txs ++ f.toList } u := by
  have hgate : allows i .gate = true := by
    cases i with
    | rduart | setabc | setbg | setspan => rfl
    | _ => cases hf
  obtain ⟨u1, h1, hrun1, hu1, hq1⟩ : ∃ u, step s = .next u ∧ running i .gate u ∧
      Underway { s with op := some i, host := rest } u ∧ Unread s u :=
    ⟨_, step_of_exec s _ _ i (hw ▸ fetch_hostWord hp (.inl hh)) (exec_of_idle (s := { s with host := rest }) hgate hp),
      ⟨rfl, rfl⟩, ⟨⟨rfl, rfl, rfl, rfl, rfl⟩, rfl⟩, rfl, List.prefix_append _ _⟩
  have hd1 : hostDutiful u1 = true := hu1.dutiful hd
  have hc1 : u1.cfg.ser = true := (step_later h1).cfg ▸ hc
  have hr1 : isReady u1 = true := isReady_of_later (step_later h1) hu1.kept.lastreq hr
  obtain ⟨u2, h2, hrun2, hu2, hq2⟩ : ∃ u, step u1 = .next u ∧ running i .build u ∧ Underway u1 u ∧ Unread u1 u :=
    ⟨_, step_running hrun1 hd1 (by decide) (exec_sender_gate hrun1 hf hv hc1 hr1), ⟨rfl, hrun1.2⟩,
      ⟨⟨rfl, rfl, rfl, rfl, rfl⟩, rfl⟩, rfl, List.prefix_append _ _⟩
  have hd2 : hostDutiful u2 = true := hu2.dutiful hd1
  obtain ⟨u3, h3, hrun3, hcmd, hu3, hq3⟩ : ∃ u, step u2 = .next u ∧ running i .send u ∧ u.cmd = f ∧ Underway u2 u ∧
      Unread u2 u :=
    ⟨_, step_running hrun2 hd2 (by decide) (exec_sender_build hrun2 hf hv), ⟨rfl, hrun2.2⟩, rfl,
      ⟨⟨rfl, rfl, rfl, rfl, rfl⟩, rfl⟩, rfl, List.prefix_append _ _⟩
  obtain ⟨u4, h4, hrun4, hlo, hhi, hu4, hq4⟩ : ∃ u, step u3 = .next u ∧ running i .settle u ∧ u3.now ≤ u.lastreq ∧
      u.lastreq ≤ u.now ∧ Underway { u3 with lastreq := u.lastreq, txs := u3.txs ++ f.toList } u ∧ Unread u3 u :=
    ⟨_, step_send hrun3 (hu3.dutiful hd2) hf hcmd hv, ⟨rfl, hrun3.2⟩, Nat.le_add_right _ _, Nat.le_add_right _ _,
      ⟨⟨rfl, rfl, rfl, rfl, rfl⟩, rfl⟩, rfl, (List.prefix_append _ _).trans (List.prefix_append _ _)⟩
  have hnow : Later s u3 := ((step_later h1).trans (step_later h2)).trans (step_later h3)
  have hbefore : Underway { s with op := some i, host := rest } u3 := (hu1.trans hu2).trans hu3
  refine ⟨u4, fun n => ?_, hrun4, hnow.now.trans hlo, hhi, ((hq1.trans hq2).trans hq3).trans hq4,
    ⟨⟨rfl, ?_, ?_, ?_, ?_⟩, ?_⟩⟩
  · rw [run_of_step _ s u1 h1, run_of_step _ u1 u2 h2, run_of_step _ u2 u3 h3, run_of_step _ u3 u4 h4]
  · exact hu4.kept.lasttemp.trans hbefore.kept.lasttemp
  · exact hu4.kept.txs.trans (congrArg (· ++ f.toList) hbefore.kept.txs)
  · exact hu4.kept.results.trans hbefore.kept.results
  · exact hu4.kept.op.trans hbefore.kept.op
  · exact hu4.host.trans hbefore.host

/-- Settles O55: `run_to_transmit`, then SETTLE of a set operation. -/
theorem setOperationCompletes : Obligations.SetOperationCompletes := by
  intro i f s w rest a e r v hi hf hp hh hw hrest hc hr
  have hset : i = .setabc e r ∨ i = .setbg a ∨ i = .setspan v := hi.imp_right (Or.imp_right And.left)
  have hv : ∀ x, i = .setspan x → spanAccepted x = true := by
    rintro x rfl
    obtain h | h | ⟨h, h1, h2⟩ := hi
    · cases h
    · cases h
    · cases h
      exact (spanAccepted_iff v).2 ⟨h1, h2⟩
  have hready : isReady s = true := (isReady_iff_readiness s).2 hr
  have hd : hostDutiful { s with host := rest } = true := (hostDutiful_iff _).2 hrest
  injection hw with hw
  obtain ⟨u, hrun, hu, hlo, hhi, hq, hunder⟩ := run_to_transmit hf hv hp hh hw hd hc hready
  obtain ⟨t, hlast, hph, hop, hk, hnow, hq'⟩ : ∃ t, step u = .next t ∧ t.ph = .idle ∧ t.op = none ∧
      Underway { u with op := none, results := u.results ++ [⟨.ok, 0⟩] } t ∧ u.now + 100 ≤ t.now ∧ Unread u t := by
    refine ⟨_, step_running hu (hunder.dutiful hd) (by decide) (exec_set_settle hset hu), rfl, rfl,
      ⟨⟨rfl, rfl, rfl, rfl, rfl⟩, rfl⟩, ?_, rfl, (List.prefix_append _ _).trans (List.prefix_append _ _)⟩
    change u.now + 100 ≤ u.now + (100 + u.act.delay) + u.act.dt
    omega
  have hreq : t.lastreq = u.lastreq := hk.kept.lastreq
  obtain ⟨hresp, bytes, hbytes⟩ := hq.trans hq'
  exact ⟨t, (hrun 1).trans (run_of_last_step hlast), hph, hop, hk.host.trans hunder.host,
    hk.kept.txs.trans hunder.kept.txs, hk.kept.results.trans (congrArg (· ++ _) hunder.kept.results), by omega, by omega,
    hk.kept.lasttemp.trans hunder.kept.lasttemp, hresp, bytes, hbytes.symm⟩

/-! ### PARSE_RESPONSE: a frame behind stray bytes -/

/-- A read of nine queued bytes takes exactly them (R144). -/
theorem readLine_of_queued {s : State} {f : Frame} {more : List Byte} (hq : s.rxq = f.toList ++ more) :
    readLine s = goto .check (readInto s) ∧ (readInto s).resp = f := by
  have hlen : s.rxq.length = 9 + more.length := by rw [hq, List.length_append, length_toList]
  have hne : s.rxq ≠ [] := List.ne_nil_of_length_pos (by omega)
  have hcount : readCount 9 s = 9 := by
    have := readCount_bounds 9 s
    omega
  refine ⟨readLine_of_frame hne hcount, ?_⟩
  have hbytes : (rxReadN 9 s).1 = f.toList := by
    rw [(rxReadN_spec 9 s).1, hcount, hq, List.append_assoc]
    exact List.take_left' (length_toList f)
  change s.resp.overwrite (rxReadN 9 s).1 = f
  rw [hbytes, overwrite_toList]

/-- The first three steps from the marker of a frame with its own checksum: RESYNC, READ and CHECK (R143 to R147). -/
theorem run_to_accepted {a : BitVec 32} {s : State} {f : Frame} {more : List Byte} (h : running (.rduart a) .resync s)
    (hq : s.rxq = f.toList ++ more) (h0 : f.b0 = 0xFF) (h8 : f.b8 = checksum f) (hd : hostDutiful s = true) :
    ∃ u : State, (∀ n, Host.Core.run core (n + 3) s = Host.Core.run core n u) ∧ running (.rduart a) .flush u ∧
      u.pend = .ok ∧ u.resp = f ∧ Underway s u := by
  have hmarker : s.rxq = 0xFF :: (f.toList.tail ++ more) := by
    rw [hq, ← h0]
    rfl
  obtain ⟨u1, h1, hrun1, hu1, hq1⟩ : ∃ u, step s = .next u ∧ running (.rduart a) .read u ∧ Underway s u ∧
      u.rxq = f.toList ++ (more ++ s.act.rx) :=
    ⟨_, step_running h hd (by decide) ((exec_rduart_resync h).trans (resyncLine_of_marker hmarker)), ⟨rfl, h.2⟩,
      ⟨⟨rfl, rfl, rfl, rfl, rfl⟩, rfl⟩, by rw [← List.append_assoc, ← hq]; rfl⟩
  have hd1 : hostDutiful u1 = true := hu1.dutiful hd
  obtain ⟨hread, hresp⟩ := readLine_of_queued hq1
  obtain ⟨u2, h2, hrun2, hu2, hresp2⟩ : ∃ u, step u1 = .next u ∧ running (.rduart a) .check u ∧ Underway u1 u ∧
      u.resp = f :=
    ⟨_, step_running hrun1 hd1 (by decide) ((exec_rduart_read hrun1).trans (congrArg _ hread)), ⟨rfl, hrun1.2⟩,
      ⟨⟨rfl, rfl, rfl, rfl, rfl⟩, rfl⟩, hresp⟩
  have hmatch : u2.resp.b8 = checksum u2.resp := by rw [hresp2, h8]
  have h3 : step u2 = .next (environment (toFlush .ok u2)) := by
    rw [step_check hrun2.1 (hu2.dutiful hd1), checkLine_of_match u2 hmatch]
  have hu3 : Underway u2 (environment (toFlush .ok u2)) := ⟨⟨rfl, rfl, rfl, rfl, rfl⟩, rfl⟩
  refine ⟨environment (toFlush .ok u2), fun n => ?_, ⟨rfl, hrun2.2⟩, rfl, hresp2, (hu1.trans hu2).trans hu3⟩
  rw [run_of_step _ s u1 h1, run_of_step _ u1 u2 h2, run_of_step _ u2 _ h3]

/-- The last two steps of an accepted frame: FLUSH and EXTRACT (R149, R214). -/
theorem run_accepted {a : BitVec 32} {s : State} (h : running (.rduart a) .flush s) (hok : s.pend = .ok)
    (hd : hostDutiful s = true) :
    ∃ t : State, Host.Core.run core 2 s = .next t ∧ t.ph = .idle ∧ t.op = none ∧ t.resp = s.resp ∧
      t.results = s.results ++ [⟨.ok, BitVec.ofInt 32 s.resp.ppm⟩] ∧ t.lasttemp = s.resp.temperature ∧ t.txs = s.txs ∧
      t.lastreq = s.lastreq := by
  let u := environment (goto .extract (rxFlush s))
  have h1 : step s = .next u :=
    step_running h hd (by decide) ((exec_rduart_flush h).trans (congrArg _ (flushLine_ok s hok)))
  have hrun : running (.rduart a) .extract u := ⟨rfl, h.2⟩
  have h2 : step u = .next (environment (extractLine u)) := step_running hrun hd (by decide) (exec_rduart_extract hrun)
  rw [extractLine_eq] at h2
  exact ⟨_, (run_of_step 1 s u h1).trans (run_of_last_step h2), rfl, rfl, rfl, rfl, rfl, rfl, rfl⟩

/-- One step of the scan past a stray byte (R143). -/
theorem step_stray {a : BitVec 32} {s : State} {b : Byte} {rest : List Byte} (h : running (.rduart a) .resync s)
    (hd : hostDutiful s = true) (hq : s.rxq = b :: rest) (hb : b ≠ 0xFF) :
    step s = .next (environment { s with rxq := rest }) :=
  step_running h hd (by decide) ((exec_rduart_resync h).trans (resyncLine_of_stray hq hb))

/-- Settles O56: by induction on the strays, the step of each being `step_stray`; then `run_to_accepted` and
`run_accepted`. -/
theorem strayBytesAreDiscardedAndFrameDecoded : Obligations.StrayBytesAreDiscardedAndFrameDecoded := by
  intro a s strays more f
  induction strays generalizing s more with
  | nil =>
    intro h hq _ h0 h8 hd
    obtain ⟨u, hrun, hu, hok, hresp, hunder⟩ := run_to_accepted h hq h0 h8 hd
    obtain ⟨t, hrun', hph, hop, hresp', hres, htemp, htxs, hreq⟩ := run_accepted hu hok (hunder.dutiful hd)
    rw [hresp] at hresp' hres htemp
    exact ⟨t, (hrun 2).trans hrun', hph, hop, hresp', hunder.kept.results ▸ hres, htemp, htxs.trans hunder.kept.txs,
      hreq.trans hunder.kept.lastreq⟩
  | cons b strays ih =>
    intro h hq hstray h0 h8 hd
    obtain ⟨hb, hrest⟩ := List.forall_mem_cons.1 hstray
    let u := environment { s with rxq := strays ++ f.toList ++ more }
    have hstep : step s = .next u := step_stray h hd (by simpa using hq) hb
    obtain ⟨t, hrun, ht⟩ := ih u (more ++ s.act.rx) h (List.append_assoc _ _ _) hrest h0 h8 hd
    refine ⟨t, ?_, ht⟩
    rw [List.length_cons, Nat.add_right_comm, run_of_step _ s u hstep, hrun]

/-! ### PARSE_RESPONSE: no byte -/

/-- FLUSH of a failed parse ends the operation with its status; only what arrives after it is left in the queue. -/
theorem step_flush_failed {a : BitVec 32} {s : State} (h : running (.rduart a) .flush s) (hd : hostDutiful s = true)
    (hp : s.pend ≠ .ok) : step s = .next (environment (raise s.pend (rxFlush s))) :=
  step_running h hd (by decide) ((exec_rduart_flush h).trans (congrArg _ (flushLine_failed s hp)))

/-- The wait for the remaining sleeps: as many acts without a byte as POLL_CYCLES leaves, then the flush. -/
theorem run_silent_wait {a : BitVec 32} {s : State} {acts rest : List EnvAct} {last flushed : EnvAct}
    (h : running (.rduart a) .wait s) (hk : s.k + acts.length = 10) (hq : s.rxq = []) (hd : hostDutiful s = true)
    (henv : s.env = acts ++ last :: flushed :: rest) (hsilent : ∀ x ∈ acts, x.arrive = [] ∧ x.rx = []) :
    ∃ t : State, Host.Core.run core (acts.length + 2) s = .next t ∧ t.ph = .idle ∧ t.op = none ∧
      t.results = s.results ++ [⟨.noResponse, 0⟩] ∧ t.lasttemp = s.lasttemp ∧ t.resp = s.resp ∧ t.txs = s.txs ∧
      t.rxq = flushed.rx ∧ s.now + acts.length * s.params.pollStep ≤ t.now := by
  induction acts generalizing s with
  | nil =>
    let u := environment (toFlush .noResponse s)
    have h1 : step s = .next u :=
      step_running h hd (by decide) ((exec_rduart_wait h).trans (congrArg _ (waitLine_of_expired hq hk)))
    have h2 : step u = .next (environment (raise .noResponse (rxFlush u))) :=
      step_flush_failed ⟨rfl, h.2⟩ hd (show Status.noResponse ≠ .ok by decide)
    have hact : u.act = flushed := act_of_cons u flushed rest (congrArg List.tail henv)
    refine ⟨_, (run_of_step 1 s u h1).trans (run_of_last_step h2), rfl, rfl, rfl, rfl, rfl, rfl,
      congrArg EnvAct.rx hact, ?_⟩
    rw [List.length_nil, Nat.zero_mul]
    exact (step_later h1).now.trans (step_later h2).now
  | cons x acts ih =>
    obtain ⟨⟨harrive, hrx⟩, hrest⟩ := List.forall_mem_cons.1 hsilent
    have hact : s.act = x := act_of_cons s x _ henv
    let u := environment { sleep s.params.pollStep s with k := s.k + 1 }
    have hne : s.k ≠ 10 := by
      rw [List.length_cons] at hk
      omega
    have hstep : step s = .next u :=
      step_running h hd (by decide) ((exec_rduart_wait h).trans (congrArg _ (waitLine_of_poll hq hne)))
    have hku : u.k + acts.length = 10 := by
      change s.k + 1 + acts.length = 10
      rw [← hk, List.length_cons]
      omega
    have hqu : u.rxq = [] := by
      change s.rxq ++ s.act.arrive ++ s.act.rx = []
      rw [hq, hact, harrive, hrx]
      rfl
    obtain ⟨t, hrun, hph, hop, hres, htemp, hresp, htxs, hrxq, hnow⟩ :=
      ih (s := u) h hku hqu hd (congrArg List.tail henv) hrest
    refine ⟨t, ?_, hph, hop, hres, htemp, hresp, htxs, hrxq, ?_⟩
    · rw [List.length_cons, Nat.add_right_comm, run_of_step _ s u hstep, hrun]
    · have hu : u.now + acts.length * s.params.pollStep ≤ t.now := hnow
      have hslept : s.now + s.params.pollStep ≤ u.now := by
        change s.now + s.params.pollStep ≤ s.now + (s.params.pollStep + s.act.delay) + s.act.dt
        omega
      rw [List.length_cons, Nat.succ_mul]
      omega

/-- Settles O57: `run_silent_wait` from K = 0. -/
theorem noResponseAfterTenSleeps : Obligations.NoResponseAfterTenSleeps := by
  intro a s acts last flushed rest h hk hq hd henv hlen hsilent
  have hrun := run_silent_wait h (by omega) hq hd henv hsilent
  rwa [hlen] at hrun

/-! ### PARSE_RESPONSE: a checksum mismatch -/

/-- Settles O58: CHECK writes the sentinel, FLUSH raises the failure; no other writer of LASTTEMP by O29. -/
theorem mismatchInvalidatesTheCache : Obligations.MismatchInvalidatesTheCache := by
  refine ⟨fun a s x y rest h hbad hd henv => ?_, rfl, fun s t hstep hne => ?_⟩
  · let v : State := toFlush .checksumMismatch { s with lasttemp := s.params.codes.checksumMismatch }
    let u := environment v
    have h1 : step s = .next u := by rw [step_check h.1 hd, checkLine_of_mismatch s hbad]
    have h2 : step u = .next (environment (raise .checksumMismatch (rxFlush u))) :=
      step_flush_failed ⟨rfl, h.2⟩ hd (show Status.checksumMismatch ≠ .ok by decide)
    have hact : u.act = y := act_of_cons u y rest (congrArg List.tail henv)
    exact ⟨_, (run_of_step 1 s u h1).trans (run_of_last_step h2), rfl, rfl, rfl, rfl, congrArg EnvAct.rx hact, rfl,
      rfl, rfl⟩
  · obtain hsame | ⟨hp, hbad, _⟩ | ⟨hp, _⟩ := lasttempHasTwoWriters s t hstep
    · exact absurd hsame hne
    · exact .inl ⟨hp, hbad⟩
    · exact .inr hp

/-! ### Operations that do not end -/

theorem pulseResult_of_zero {s : State} (h : s.act.pulseHigh = 0 ∧ s.act.pulseLow = 0) (level : Level) (timeout : Nat) :
    pulseResult level timeout s = 0 := by
  obtain ⟨hhigh, hlow⟩ := h
  cases level with
  | high => rw [pulseResult, hhigh, Nat.zero_min]
  | low => rw [pulseResult, hlow, Nat.zero_min]

theorem exists_env_cons {s : State} {n : Nat} (h : n + 1 ≤ s.env.length) :
    ∃ x later, s.env = x :: later ∧ n ≤ later.length := by
  cases he : s.env with
  | nil => simp [he] at h
  | cons x later =>
    rw [he, List.length_cons] at h
    exact ⟨x, later, rfl, by omega⟩

/-- Settles O59: by induction on the steps; a pulse of 0 leads back to MEASURE. -/
theorem rdpwmDivergesOnZeroPulses : Obligations.RdpwmDivergesOnZeroPulses := by
  intro n a s
  induction n generalizing s with
  | zero => exact fun h _ _ _ => ⟨s, rfl, h, rfl, rfl⟩
  | succ n ih =>
    intro h hd hlen hzero
    obtain ⟨x, later, henv, hlater⟩ := exists_env_cons hlen
    rw [henv, List.take_succ_cons, List.forall_mem_cons] at hzero
    obtain ⟨hx, hrest⟩ := hzero
    have hact : s.act = x := act_of_cons s x later henv
    let u := environment { during s.act.delay s with th := 0 }
    have hpulse := pulseResult_of_zero (hact ▸ hx) s.params.pwmLevel s.params.pwmTimeout
    have hstep : step s = .next u :=
      step_running h hd (by decide) ((exec_rdpwm_measure h).trans (congrArg _ (measureLine_of_zero hpulse)))
    have henvu : u.env = later := congrArg List.tail henv
    obtain ⟨t, hrun, ht⟩ := ih u h hd (henvu ▸ hlater) (henvu ▸ hrest)
    exact ⟨t, (run_of_step n s u hstep).trans hrun, ht⟩

/-- Settles O60: by induction on the steps; each discarded byte is replaced by one that is no marker either. -/
theorem scanDivergesWhileFed : Obligations.ScanDivergesWhileFed := by
  intro n a s
  induction n generalizing s with
  | zero => exact fun h _ _ _ _ _ => ⟨s, rfl, h, rfl, rfl⟩
  | succ n ih =>
    intro h hd hne hstray hlen hfed
    obtain ⟨x, later, henv, hlater⟩ := exists_env_cons hlen
    rw [henv, List.take_succ_cons, List.forall_mem_cons] at hfed
    obtain ⟨⟨c, hc, hcne⟩, hrest⟩ := hfed
    have hact : s.act = x := act_of_cons s x later henv
    obtain ⟨b, queue, hq⟩ := List.exists_cons_of_ne_nil hne
    rw [hq, List.forall_mem_cons] at hstray
    obtain ⟨hb, hqueue⟩ := hstray
    let u := environment { s with rxq := queue }
    have hstep : step s = .next u := step_stray h hd hq hb
    have henvu : u.env = later := congrArg List.tail henv
    have hrxq : u.rxq = queue ++ [c] := by
      change queue ++ s.act.rx = queue ++ [c]
      rw [hact, hc]
    have hstrayu : ∀ b ∈ u.rxq, b ≠ 0xFF := by
      rw [hrxq]
      intro b hmem
      obtain hmem | hmem := List.mem_append.1 hmem
      · exact hqueue b hmem
      · exact List.mem_singleton.1 hmem ▸ hcne
    obtain ⟨t, hrun, ht, hres, hlent⟩ :=
      ih u h hd (by simp [hrxq]) hstrayu (henvu ▸ hlater) (henvu ▸ hrest)
    refine ⟨t, (run_of_step n s u hstep).trans hrun, ht, hres, ?_⟩
    rw [hlent, hrxq, hq, List.length_append, List.length_cons]
    rfl

end Sys2Proof.Machine
end
